-- ==== Sys2Proof/Word.lean ====
section
/-! DEFINITION. The bit-vector types of the AICA synthesizer engine (spec/00_scope.md R12, R13). -/

namespace Sys2Proof

/-- One byte of wave RAM (R60), one NOISE entry (R222). -/
abbrev Byte := BitVec 8

/-- One register word, `WORD` = 16 bits (R9, R22), and one s16 operand (R80). -/
abbrev Word := BitVec 16

/-- The spec's u32 (R33, R36, R40). -/
abbrev U32 := BitVec 32

end Sys2Proof
end

