-- ==== Sys2Proof/Config.lean ====
section
/-! DEFINITION. The implementation parameters of spec/00_scope.md R9 and the free values (`Draw`, R14).

The parameters, the lookup tables among them, are plain data, held in `State.params` and written by no operation
(R10, R42), so a statement about every state holds for every choice of them. A free value is an `opaque` constant with
no body: nothing can be proved about which value it is. The tables' reference values are in
`Sys2Proof/Machine/Tables*.lean`. -/

namespace Sys2Proof

/-- `RAM_SIZE` (R9, decision D7): OPEN, one of 2 MiB or 8 MiB. -/
inductive RamSize where
  /-- 2097152 bytes -/
  | mib2
  /-- 8388608 bytes -/
  | mib8
deriving DecidableEq, Repr

/-- `RAM_SIZE` in bytes (R9). -/
def RamSize.bytes : RamSize → Nat
  | .mib2 => 2097152
  | .mib8 => 8388608

/-- `EG_FRAC` (R9, decision D5): the fraction bits of the EG volume, with the two values the spec gives tables for. -/
inductive EgFrac where
  /-- 10, the source's 20-bit volume: the spec's default -/
  | frac10
  /-- 16, the reference implementation's -/
  | frac16
deriving DecidableEq, Repr

/-- The number of fraction bits `F` (R9). -/
def EgFrac.bits : EgFrac → Nat
  | .frac10 => 10
  | .frac16 => 16

/-- `SKIP_D1` (R162, decision D26): which skip-DECAY1 test the instance uses. -/
inductive SkipD1 where
  /-- the spec's default test -/
  | doc
  /-- the reference implementation's test -/
  | reference
deriving DecidableEq, Repr

/-- The contents of a lookup table of `n` entries, which are configuration (R10, decision D31): the reference values, the
default, or the entries the instance is built with. -/
inductive LookupTable (α : Type) (n : Nat) where
  /-- the reference values, of the rule that names the table -/
  | reference
  /-- these entries -/
  | given (entries : Vector α n)
deriving DecidableEq, Repr

/-- The lookup tables of an instance (R9, R42, and 93_implementation_defined.md I28). -/
structure Tables where
  /-- AR_TABLE and DR_TABLE (R151) -/
  ar : LookupTable Nat 64
  dr : LookupTable Nat 64
  /-- EG_TABLE (R152) -/
  eg : LookupTable Nat 1024
  /-- LPAN_TABLE and RPAN_TABLE (R241), indexed by `TL | PAN << 8 | SDL << 13` -/
  lpan : LookupTable Nat 0x20000
  rpan : LookupTable Nat 0x20000
  /-- LFO_STEP (R221): phase steps, u32 (R37) -/
  lfoStep : LookupTable U32 32
  /-- the amplitude waveforms (R222), which hold 0 .. 255 -/
  ampSaw : LookupTable Byte 256
  ampSquare : LookupTable Byte 256
  ampTri : LookupTable Byte 256
  /-- the pitch waveforms (R222), which hold -128 .. 127: signed bytes -/
  pitchSaw : LookupTable Byte 256
  pitchSquare : LookupTable Byte 256
  pitchTri : LookupTable Byte 256
  /-- PSCALES (R223) and ASCALES (R224): row `d` is entries `256 * d` to `256 * d + 255` -/
  pscales : LookupTable Nat 2048
  ascales : LookupTable Nat 2048
  /-- QUANT_MUL and QUANT_SCALE (R192) -/
  quantMul : LookupTable Int 16
  quantScale : LookupTable Nat 8
deriving DecidableEq, Repr

/-- The default of decision D31: every table at its reference values. -/
def Tables.reference : Tables :=
  { ar := .reference
    dr := .reference
    eg := .reference
    lpan := .reference
    rpan := .reference
    lfoStep := .reference
    ampSaw := .reference
    ampSquare := .reference
    ampTri := .reference
    pitchSaw := .reference
    pitchSquare := .reference
    pitchTri := .reference
    pscales := .reference
    ascales := .reference
    quantMul := .reference
    quantScale := .reference }

/-- The parameters an instance is built with (R9, R42). -/
structure Params where
  ramSize : RamSize
  egFrac : EgFrac
  skipD1 : SkipD1
  tables : Tables
deriving DecidableEq, Repr

/-- The source of the last assertion of the interrupt line (R39). -/
inductive IrqSrc where
  | none
  | midi
  | tima
  | timb
  | timc
deriving DecidableEq, Repr

/-- The `Draw` that a host read of a monitor or an unmapped word returns (R84); the argument is the draw counter. -/
opaque Config.drawWord : Nat → Word

/-- The `Draw` that a wave-RAM read at or above `RAM_SIZE` returns (R61); the argument is the draw counter. -/
opaque Config.drawByte : Nat → Byte

/-- The `Draw` of NOISE entry `i` made by a RESET (R222, R330); the arguments are the draw counter and `i`. -/
opaque Config.drawNoise : Nat → Nat → Byte

/-- The `Draw` in 0 .. 2^32 - 1 that a read past the end of a PSCALES row gives (R229, decision D13); the argument is the
draw counter. -/
opaque Config.drawScale : Nat → U32

/-- `IRQ_LEVEL` (R9, R270): the OPEN function of the source and of the words SCILV0, SCILV1, SCILV2. -/
opaque Config.irqLevel : IrqSrc → Word → Word → Word → Nat

end Sys2Proof
end

