-- ==== Sys2Proof/Syntax.lean ====
section
/-! DEFINITION. The operations of the block (spec/30_encoding.md R80, R82): one constructor per mnemonic of
spec/opcode_table.json, and the transaction that carries an operation (R81). -/

namespace Sys2Proof

/-- One operation, after decoding. `a` is a byte offset of the register window, `v` a word, `m` a byte-enable mask
(R80), `s` a slot number 0 to 63 (R83), `k` a timer number 0, 1, 2 for A, B, C (R262). -/
inductive Instr where
  /-- host read at an odd offset (R82 row 1) -/
  | r16RefuseOdd (a : Word)
  /-- host read at an even offset of 0x8000 or above (R82 row 1) -/
  | r16RefuseWindow (a : Word)
  /-- host read of a slot word (R121) -/
  | r16Slot (a : Word)
  /-- host read of an effect-return word (R122) -/
  | r16Efspan (a : Word)
  /-- host read of an unmapped offset (R84) -/
  | r16Unmapped (a : Word)
  /-- host read of an out-of-scope register (R86) -/
  | r16Refused (a : Word)
  /-- host read of a monitor word (R84) -/
  | r16Monitor (a : Word)
  /-- host read of a common control word (R123) -/
  | r16Common (a : Word)
  /-- host read of IRQL or IRQR (R124) -/
  | r16Irqreg (a : Word)
  /-- host write at an odd offset (R82 row 1) -/
  | w16RefuseOdd (a v m : Word)
  /-- host write at an even offset of 0x8000 or above (R82 row 1) -/
  | w16RefuseWindow (a v m : Word)
  /-- host write of slot word 0x00: key-on and key-off execute (R125) -/
  | w16SlotCtrl (s : Fin 64) (v m : Word)
  /-- host write of slot word 0x14 (R133) -/
  | w16SlotEgrel (s : Fin 64) (v m : Word)
  /-- host write of slot word 0x18 (R134) -/
  | w16SlotPitch (s : Fin 64) (v m : Word)
  /-- host write of slot word 0x1C (R135) -/
  | w16SlotLfo (s : Fin 64) (v m : Word)
  /-- host write of slot word 0x04 (R126) -/
  | w16SlotSa (s : Fin 64) (v m : Word)
  /-- host write of slot word 0x08 (R127) -/
  | w16SlotLsa (s : Fin 64) (v m : Word)
  /-- host write of slot word 0x0C (R128) -/
  | w16SlotLea (s : Fin 64) (v m : Word)
  /-- host write of slot word 0x10 (R129) -/
  | w16SlotEgrate (s : Fin 64) (v m : Word)
  /-- host write of slot word 0x20 (R136) -/
  | w16SlotDspsend (s : Fin 64) (v m : Word)
  /-- host write of slot word 0x24 (R137) -/
  | w16SlotDirect (s : Fin 64) (v m : Word)
  /-- host write of slot word 0x28 (R138) -/
  | w16SlotTl (s : Fin 64) (v m : Word)
  /-- host write of any other slot word (R139) -/
  | w16SlotStore (a v m : Word)
  /-- host write of an effect-return word (R140) -/
  | w16Efspan (a v m : Word)
  /-- host write of an unmapped offset (R85) -/
  | w16Unmapped (a v m : Word)
  /-- host write of an out-of-scope register (R86) -/
  | w16Refused (a v m : Word)
  /-- host write of a monitor word (R142) -/
  | w16Monitor (a v m : Word)
  /-- host write of a timer word (R262) -/
  | w16Timer (k : Fin 3) (v m : Word)
  /-- host write of SCIRE, 0x28A4 (R266) -/
  | w16Scire (v m : Word)
  /-- host write of any other common control word (R141) -/
  | w16Common (a v m : Word)
  /-- host write of IRQL, 0x2D00 (R143) -/
  | w16Irql (v m : Word)
  /-- host write of IRQR, 0x2D04 (R268) -/
  | w16Irqr (v m : Word)
  /-- one sample period with the DSP's 16 effect outputs (R250) -/
  | tick (efreg : List Word)
  /-- configure the fade; the operands are seconds, as the source's f64 bit patterns (R281, R87) -/
  | fadeConfigure (lengthS fadeS : BitVec 64)
  /-- advance the fade by one sample (R283) -/
  | fadeAdvance (l r : Word)
  /-- read the sample counter (R286) -/
  | fadeCount
  /-- read the sample total (R287) -/
  | fadeTotal
  /-- reset (R330) -/
  | reset
  /-- the MIDI FIFO's notification (R269) -/
  | midiNotify (p : Bool)
  /-- op codes 9 to 15 (R90); `low` is the rest of the key, which takes no part -/
  | reserved (op : BitVec 4) (low : Word)
deriving DecidableEq, Repr

/-- An operation as its issuer hands it over: the 20-bit transaction key of R81 and the operand words that "travel
beside the key". The operand words' layout is the model's own (assumption log 2). -/
structure Transaction where
  key : BitVec 20
  data : List Word
deriving DecidableEq, Repr

/-- Why a transaction is none of the operations of R80 (assumption log 3). -/
inductive DecodeError where
  /-- op codes 2 to 8 have K[15:0] = 0 (R81): these address bits are not 0 -/
  | addressBits
  /-- an operand word is absent -/
  | missingOperand
  /-- a word beyond the operands is not 0 -/
  | strayOperand
  /-- MIDI_NOTIFY's operand is neither 0 nor 1 -/
  | notBool
deriving DecidableEq, Repr

end Sys2Proof
end

