-- ==== Sys2Proof/WellFormed.lean ====
section
/-! DEFINITION. Which terms of `Instr` are operations of the block: each register operation's offset lies in the
address class of its row (spec/30_encoding.md R82), a TICK has 16 effect outputs (R80), a reserved op code is 9 to 15 (R90). -/

namespace Sys2Proof

/-- An even offset (R82). -/
def isEven (a : Word) : Bool := a.toNat % 2 == 0

/-- The slot words, R82 rows 2 to 7. -/
def isSlotReg (a : Word) : Bool := isEven a && decide (a.toNat < 0x2000)

/-- The slot words that have an operation of their own, R82 rows 2 to 6. -/
def isNamedSlotOffset (o : Nat) : Bool :=
  [0x00, 0x04, 0x08, 0x0C, 0x10, 0x14, 0x18, 0x1C, 0x20, 0x24, 0x28].contains o

/-- The effect-return words, R82 row 8. -/
def isEfspanReg (a : Word) : Bool := isEven a && decide (0x2000 ≤ a.toNat) && decide (a.toNat ≤ 0x2044)

/-- The out-of-scope registers, R82 rows 10 and 17: MIDI FIFO, DMA, DSP. -/
def isRefusedReg (a : Word) : Bool :=
  isEven a && ((decide (0x2808 ≤ a.toNat) && decide (a.toNat ≤ 0x280A))
    || (decide (0x2880 ≤ a.toNat) && decide (a.toNat ≤ 0x288E))
    || (decide (0x3000 ≤ a.toNat) && decide (a.toNat ≤ 0x7FFE)))

/-- The monitor words, R82 row 11. -/
def isMonitorReg (a : Word) : Bool := a == 0x2810 || a == 0x2814 || a == 0x28B8

/-- The common words a host read returns as stored, R82 rows 12 to 14. -/
def isCommonReg (a : Word) : Bool :=
  isEven a && decide (0x2800 ≤ a.toNat) && decide (a.toNat ≤ 0x28BC) && !isRefusedReg a && !isMonitorReg a

/-- The common words whose write is plain storage, R82 row 14. -/
def isPlainCommonReg (a : Word) : Bool :=
  isCommonReg a && a != 0x2890 && a != 0x2894 && a != 0x2898 && a != 0x28A4

/-- IRQL and IRQR, R82 rows 15 and 16. -/
def isIrqReg (a : Word) : Bool := a == 0x2D00 || a == 0x2D04

/-- The unmapped offsets, R82 rows 9 and 18 (decision D8 (b)). -/
def isUnmappedReg (a : Word) : Bool :=
  isEven a && ((decide (0x2046 ≤ a.toNat) && decide (a.toNat ≤ 0x27FE))
    || (decide (0x28BE ≤ a.toNat) && decide (a.toNat ≤ 0x2CFE))
    || a == 0x2D02
    || (decide (0x2D06 ≤ a.toNat) && decide (a.toNat ≤ 0x2FFE)))

/-- An offset the register window does not have, R82 row 1 (even, 0x8000 or above). -/
def isBeyondWindow (a : Word) : Bool := isEven a && decide (0x8000 ≤ a.toNat)

/-- Whether a term is an operation the decoder can give. The operands v, m, lengths, samples and p admit every value
(R303: "Every other operand is typed"). -/
def Instr.wf : Instr → Bool
  | .r16RefuseOdd a => !isEven a
  | .r16RefuseWindow a => isBeyondWindow a
  | .r16Slot a => isSlotReg a
  | .r16Efspan a => isEfspanReg a
  | .r16Unmapped a => isUnmappedReg a
  | .r16Refused a => isRefusedReg a
  | .r16Monitor a => isMonitorReg a
  | .r16Common a => isCommonReg a
  | .r16Irqreg a => isIrqReg a
  | .w16RefuseOdd a _ _ => !isEven a
  | .w16RefuseWindow a _ _ => isBeyondWindow a
  | .w16SlotCtrl _ _ _ => true
  | .w16SlotEgrel _ _ _ => true
  | .w16SlotPitch _ _ _ => true
  | .w16SlotLfo _ _ _ => true
  | .w16SlotSa _ _ _ => true
  | .w16SlotLsa _ _ _ => true
  | .w16SlotLea _ _ _ => true
  | .w16SlotEgrate _ _ _ => true
  | .w16SlotDspsend _ _ _ => true
  | .w16SlotDirect _ _ _ => true
  | .w16SlotTl _ _ _ => true
  | .w16SlotStore a _ _ => isSlotReg a && !isNamedSlotOffset (a.toNat % 128)
  | .w16Efspan a _ _ => isEfspanReg a
  | .w16Unmapped a _ _ => isUnmappedReg a
  | .w16Refused a _ _ => isRefusedReg a
  | .w16Monitor a _ _ => isMonitorReg a
  | .w16Timer _ _ _ => true
  | .w16Scire _ _ => true
  | .w16Common a _ _ => isPlainCommonReg a
  | .w16Irql _ _ => true
  | .w16Irqr _ _ => true
  | .tick efreg => efreg.length == 16
  | .fadeConfigure _ _ => true
  | .fadeAdvance _ _ => true
  | .fadeCount => true
  | .fadeTotal => true
  | .reset => true
  | .midiNotify _ => true
  | .reserved op _ => decide (9 ≤ op.toNat)

end Sys2Proof
end

