-- ==== Sys2Proof/Decode.lean ====
section
/-! DEFINITION. The decoder and the encoder of transactions (spec/30_encoding.md R80 to R83, R90, R91).

A transaction holds the 20-bit key and the operand words (assumption log 2). R16 takes no operand word; W16 takes
`v` and the complement of the byte-enable mask `m` (so that zero operand words are a full-word write of 0); TICK takes
efreg[0] to efreg[15]; FADE_CONFIGURE takes two f64 patterns, each as four words, the least significant first;
FADE_ADVANCE takes `l`, `r`; MIDI_NOTIFY takes 0 or 1; the others take none. Words after the operands must be 0. -/

namespace Sys2Proof

/-- The operation of a host read at byte offset `a`: R82's column R16, the first row whose condition holds. -/
def decodeRead (a : Word) : Instr :=
  let n := a.toNat
  if n % 2 = 1 then .r16RefuseOdd a                                                            -- row 1
  else if 0x8000 ≤ n then .r16RefuseWindow a                                                   -- row 1
  else if n < 0x2000 then .r16Slot a                                                           -- rows 2 to 7
  else if n ≤ 0x2044 then .r16Efspan a                                                         -- row 8
  else if n ≤ 0x27FE then .r16Unmapped a                                                       -- row 9
  else if (0x2808 ≤ n ∧ n ≤ 0x280A) ∨ (0x2880 ≤ n ∧ n ≤ 0x288E) then .r16Refused a             -- row 10
  else if n = 0x2810 ∨ n = 0x2814 ∨ n = 0x28B8 then .r16Monitor a                              -- row 11
  else if n ≤ 0x28BC then .r16Common a                                                         -- rows 12 to 14
  else if n = 0x2D00 ∨ n = 0x2D04 then .r16Irqreg a                                            -- rows 15, 16
  else if 0x3000 ≤ n then .r16Refused a                                                        -- row 17
  else .r16Unmapped a                                                                          -- row 18

/-- The slot number of a slot word's offset, `s = a[12:7]` (R83). -/
def slotOfOffset (a : Word) : Fin 64 := Fin.ofNat 64 (a.toNat / 128)

/-- The operation of a host write of a slot word: R82 rows 2 to 7, by the slot-relative offset `o = a[6:0]`. -/
def decodeSlotWrite (a v m : Word) : Instr :=
  let o := a.toNat % 128
  let s := slotOfOffset a
  if o = 0x00 then .w16SlotCtrl s v m
  else if o = 0x14 then .w16SlotEgrel s v m
  else if o = 0x18 then .w16SlotPitch s v m
  else if o = 0x1C then .w16SlotLfo s v m
  else if o = 0x04 then .w16SlotSa s v m
  else if o = 0x08 then .w16SlotLsa s v m
  else if o = 0x0C then .w16SlotLea s v m
  else if o = 0x10 then .w16SlotEgrate s v m
  else if o = 0x20 then .w16SlotDspsend s v m
  else if o = 0x24 then .w16SlotDirect s v m
  else if o = 0x28 then .w16SlotTl s v m
  else .w16SlotStore a v m

/-- The operation of a host write at byte offset `a`: R82's column W16, the first row whose condition holds. -/
def decodeWrite (a v m : Word) : Instr :=
  let n := a.toNat
  if n % 2 = 1 then .w16RefuseOdd a v m                                                        -- row 1
  else if 0x8000 ≤ n then .w16RefuseWindow a v m                                               -- row 1
  else if n < 0x2000 then decodeSlotWrite a v m                                                -- rows 2 to 7
  else if n ≤ 0x2044 then .w16Efspan a v m                                                     -- row 8
  else if n ≤ 0x27FE then .w16Unmapped a v m                                                   -- row 9
  else if (0x2808 ≤ n ∧ n ≤ 0x280A) ∨ (0x2880 ≤ n ∧ n ≤ 0x288E) then .w16Refused a v m         -- row 10
  else if n = 0x2810 ∨ n = 0x2814 ∨ n = 0x28B8 then .w16Monitor a v m                          -- row 11
  else if n = 0x2890 then .w16Timer 0 v m                                                      -- row 12
  else if n = 0x2894 then .w16Timer 1 v m                                                      -- row 12
  else if n = 0x2898 then .w16Timer 2 v m                                                      -- row 12
  else if n = 0x28A4 then .w16Scire v m                                                        -- row 13
  else if n ≤ 0x28BC then .w16Common a v m                                                     -- row 14
  else if n = 0x2D00 then .w16Irql v m                                                         -- row 15
  else if n = 0x2D04 then .w16Irqr v m                                                         -- row 16
  else if 0x3000 ≤ n then .w16Refused a v m                                                    -- row 17
  else .w16Unmapped a v m                                                                      -- row 18

/-- The operand words of an operation that takes `n` of them: they are there, and every word after them is 0. -/
def takeOperands (n : Nat) (data : List Word) : Except DecodeError (List Word) :=
  if data.length < n then .error .missingOperand
  else if (data.drop n).all (fun w => w == 0) then .ok (data.take n)
  else .error .strayOperand

/-- Operand word `i` of a list that holds it. -/
def operandWord (data : List Word) (i : Nat) : Word := data.getD i 0

/-- The 64-bit pattern in operand words `i` to `i + 3`, the least significant first. -/
def operandQuad (data : List Word) (i : Nat) : BitVec 64 :=
  operandWord data (i + 3) ++ (operandWord data (i + 2) ++ (operandWord data (i + 1) ++ operandWord data i))

/-- The operation of op code `op` (R80), given the key's low half `a` and the operand words. -/
def decodeOp (op : BitVec 4) (a : Word) (data : List Word) : Except DecodeError Instr :=
  match op.toNat with
  | 0 => (takeOperands 0 data).map fun _ => decodeRead a
  | 1 => (takeOperands 2 data).map fun d => decodeWrite a (operandWord d 0) (~~~ operandWord d 1)
  | 2 => if a ≠ 0 then .error .addressBits else (takeOperands 16 data).map fun d => .tick d
  | 3 =>
    if a ≠ 0 then .error .addressBits
    else (takeOperands 8 data).map fun d => .fadeConfigure (operandQuad d 0) (operandQuad d 4)
  | 4 =>
    if a ≠ 0 then .error .addressBits
    else (takeOperands 2 data).map fun d => .fadeAdvance (operandWord d 0) (operandWord d 1)
  | 5 => if a ≠ 0 then .error .addressBits else (takeOperands 0 data).map fun _ => .fadeCount
  | 6 => if a ≠ 0 then .error .addressBits else (takeOperands 0 data).map fun _ => .fadeTotal
  | 7 => if a ≠ 0 then .error .addressBits else (takeOperands 0 data).map fun _ => .reset
  | 8 =>
    if a ≠ 0 then .error .addressBits
    else (takeOperands 1 data).bind fun d =>
      if operandWord d 0 = 0 then .ok (.midiNotify false)
      else if operandWord d 0 = 1 then .ok (.midiNotify true)
      else .error .notBool
  | _ => (takeOperands 0 data).map fun _ => .reserved op a

/-- Decode a transaction by its key (R81): K[19:16] is the op code, K[15:0] the byte offset. -/
def decode (t : Transaction) : Except DecodeError Instr :=
  decodeOp (t.key.extractLsb' 16 4) (t.key.extractLsb' 0 16) t.data

/-- A transaction written as one number: bits 19:0 are the key, bits 23:20 pad it to whole bytes, and operand word `i`
is bits 24 + 16 i upward, for the 16 words the longest operation takes. -/
def transactionOfNat (w : Nat) : Transaction :=
  { key := BitVec.ofNat 20 w
    data := (List.range 16).map fun i => BitVec.ofNat 16 (w >>> (24 + 16 * i)) }

/-- The operation the decoder reads from an opcode-table word; `none` where it refuses. The table's rows have 20 bits, so the pad bits must be 0. -/
def decodeTableWord (_nbits w : Nat) : Option Instr :=
  if w / 2 ^ 20 % 16 = 0 then
    match decode (transactionOfNat w) with
    | .ok i => some i
    | .error _ => none
  else none

/-- The key of R81 from an op code and a low half. -/
def mkKey (op : BitVec 4) (a : Word) : BitVec 20 := op ++ a

/-- A host write's transaction: `v` and the complement of `m` travel beside the key. -/
def encodeWrite (a v m : Word) : Transaction := ⟨mkKey 1 a, [v, ~~~ m]⟩

/-- The byte offset of slot `s`'s word at slot-relative offset `o` (R83). -/
def slotOffset (s : Fin 64) (o : Nat) : Word := BitVec.ofNat 16 (s.val * 128 + o)

/-- The four operand words of a 64-bit pattern, the least significant first. -/
def quadWords (b : BitVec 64) : List Word :=
  [b.extractLsb' 0 16, b.extractLsb' 16 16, b.extractLsb' 32 16, b.extractLsb' 48 16]

/-- The transaction of an operation (R80, R81, R82). -/
def encode : Instr → Transaction
  | .r16RefuseOdd a => ⟨mkKey 0 a, []⟩
  | .r16RefuseWindow a => ⟨mkKey 0 a, []⟩
  | .r16Slot a => ⟨mkKey 0 a, []⟩
  | .r16Efspan a => ⟨mkKey 0 a, []⟩
  | .r16Unmapped a => ⟨mkKey 0 a, []⟩
  | .r16Refused a => ⟨mkKey 0 a, []⟩
  | .r16Monitor a => ⟨mkKey 0 a, []⟩
  | .r16Common a => ⟨mkKey 0 a, []⟩
  | .r16Irqreg a => ⟨mkKey 0 a, []⟩
  | .w16RefuseOdd a v m => encodeWrite a v m
  | .w16RefuseWindow a v m => encodeWrite a v m
  | .w16SlotCtrl s v m => encodeWrite (slotOffset s 0x00) v m
  | .w16SlotEgrel s v m => encodeWrite (slotOffset s 0x14) v m
  | .w16SlotPitch s v m => encodeWrite (slotOffset s 0x18) v m
  | .w16SlotLfo s v m => encodeWrite (slotOffset s 0x1C) v m
  | .w16SlotSa s v m => encodeWrite (slotOffset s 0x04) v m
  | .w16SlotLsa s v m => encodeWrite (slotOffset s 0x08) v m
  | .w16SlotLea s v m => encodeWrite (slotOffset s 0x0C) v m
  | .w16SlotEgrate s v m => encodeWrite (slotOffset s 0x10) v m
  | .w16SlotDspsend s v m => encodeWrite (slotOffset s 0x20) v m
  | .w16SlotDirect s v m => encodeWrite (slotOffset s 0x24) v m
  | .w16SlotTl s v m => encodeWrite (slotOffset s 0x28) v m
  | .w16SlotStore a v m => encodeWrite a v m
  | .w16Efspan a v m => encodeWrite a v m
  | .w16Unmapped a v m => encodeWrite a v m
  | .w16Refused a v m => encodeWrite a v m
  | .w16Monitor a v m => encodeWrite a v m
  | .w16Timer k v m => encodeWrite (BitVec.ofNat 16 (0x2890 + 4 * k.val)) v m
  | .w16Scire v m => encodeWrite 0x28A4 v m
  | .w16Common a v m => encodeWrite a v m
  | .w16Irql v m => encodeWrite 0x2D00 v m
  | .w16Irqr v m => encodeWrite 0x2D04 v m
  | .tick efreg => ⟨mkKey 2 0, efreg⟩
  | .fadeConfigure lengthS fadeS => ⟨mkKey 3 0, quadWords lengthS ++ quadWords fadeS⟩
  | .fadeAdvance l r => ⟨mkKey 4 0, [l, r]⟩
  | .fadeCount => ⟨mkKey 5 0, []⟩
  | .fadeTotal => ⟨mkKey 6 0, []⟩
  | .reset => ⟨mkKey 7 0, []⟩
  | .midiNotify p => ⟨mkKey 8 0, [if p then 1 else 0]⟩
  | .reserved op low => ⟨mkKey op low, []⟩

end Sys2Proof
end

