-- ==== Sys2Proof/Machine/State.lean ====
section
/-! DEFINITION. The machine's state (spec/10_state.md), its reset value (R43, R330, R331), and the reasons a step stops.

State is plain data. `regs`, `slots`, `timCnt`, `irq`, `irqSrc`, `midiPending`, `fade`, `noise` and `refused` are the
state of R22 to R41; `ram` is the wave RAM the block reads (R60); `params` is the configuration of R42, which no
operation writes; `input`, `result` and `draws` are the MODEL's own (assumption log 1, 5, 7). -/

namespace Sys2Proof.Machine

/-- The EG stage of a slot (R34). -/
inductive EgState where
  | attack
  | decay1
  | decay2
  | release
deriving DecidableEq, Repr

/-- Envelope-generator state of a slot (R34). -/
structure Eg where
  state : EgState
  /-- `eg.volume`: 10 integer bits and `EG_FRAC` fraction bits -/
  volume : Int
  /-- the latched steps `eg.ar`, `eg.d1r`, `eg.d2r`, `eg.rr`, in units of 2^-EG_FRAC per tick -/
  ar : Nat
  d1r : Nat
  d2r : Nat
  rr : Nat
  /-- latched threshold `0x1F - DL` -/
  dl : BitVec 5
  /-- latched EGHOLD -/
  hold : Bool
deriving DecidableEq, Repr

/-- ADPCM decoder state of a slot (R36); `quant = 0` says that it was never initialised since reset (R187). -/
structure Adpcm where
  /-- the running predictor, in the s16 range -/
  sample : Int
  /-- the running quantisation step -/
  quant : Nat
  /-- nibbles decoded from the stream start -/
  step : U32
  /-- unmasked byte address of the byte that holds nibble `step` -/
  base : U32
  /-- the loop cache `ad.lp_sample`, `ad.lp_quant` -/
  lpSample : Int
  lpQuant : Nat
deriving DecidableEq, Repr

/-- The latched waveform of an LFO (R37); `none` until first computed. -/
inductive Wave where
  | saw
  | square
  | tri
  | noise
  | none
deriving DecidableEq, Repr

/-- One LFO of a slot (R37). -/
structure Lfo where
  phase : Word
  phaseStep : U32
  wave : Wave
  /-- latched scale-table row -/
  depth : BitVec 3
deriving DecidableEq, Repr

/-- Runtime state of a slot (R32 to R37). -/
structure Slot where
  active : Bool
  /-- the loop-pending flag: written false at key-on, read by no rule (R33) -/
  lpend : Bool
  /-- sample addresses with 12 fractional bits (R33) -/
  curAddr : U32
  nxtAddr : U32
  prvAddr : U32
  /-- the latched pitch step (R33, R180) -/
  step : U32
  eg : Eg
  ad : Adpcm
  plfo : Lfo
  alfo : Lfo
deriving DecidableEq, Repr

/-- The length/fade envelope's state (R40, R280). -/
structure Fader where
  counter : U32
  beginAt : U32
  endAt : U32
  enabled : Bool
  done : Bool
deriving DecidableEq, Repr

/-- Why an operation was refused: the reasons of R303. -/
inductive RefuseReason where
  | oddOffset
  | offsetOutOfWindow
  | badByteEnable
  | outOfScopeRegister (a : Word)
  | reservedOp
  | badFadeOperand
deriving DecidableEq, Repr

/-- What the last operation returned (R80, column "result"). -/
inductive Result where
  /-- the operation returns nothing -/
  | none
  /-- R16: the word read -/
  | word (v : Word)
  /-- TICK: the stereo sample and the DSP sends (channel, value), in slot order -/
  | tick (l r : Int) (sends : List (BitVec 4 × Int))
  /-- FADE_ADVANCE: the stereo sample -/
  | stereo (l r : Int)
  /-- FADE_COUNT, FADE_TOTAL -/
  | count (n : U32)
  /-- the operation was refused: it returns no value (R303) -/
  | refused (why : RefuseReason)
deriving DecidableEq, Repr

/-- What the environment does between steps (R320): it issues an operation, or it writes a byte of wave RAM. -/
inductive Event where
  | op (t : Transaction)
  | ramWrite (a : Nat) (b : Byte)
deriving DecidableEq, Repr

/-- The register file's words by byte offset (R22), in the canonical form of `cellsWf`: an offset that is not listed
holds 0x0000, its reset value (R43). -/
abbrev RegFile := List (Nat × Word)

/-- Wave RAM (R60) by byte address, in the canonical form of `cellsWf`: an address that is not listed reads as 0x00 (assumption log 9). -/
abbrev Memory := List Host.Cell

structure State where
  /-- the instance's parameters (R42) -/
  params : Params
  /-- the register file (R22 to R31) -/
  regs : RegFile
  /-- the slots' runtime state (R32 to R37) -/
  slots : Vector Slot 64
  /-- the timer counters (R38); 0xFFFF is stopped (R260) -/
  timCnt : Vector (BitVec 16) 3
  /-- the interrupt output line (R39) -/
  irq : Bool
  /-- the source of the line's last assertion (R39) -/
  irqSrc : IrqSrc
  /-- a received MIDI byte is queued (R39) -/
  midiPending : Bool
  /-- the fader (R40) -/
  fade : Fader
  /-- `NOISE[0..255]` (R43, R222) -/
  noise : Vector Byte 256
  /-- the model bookkeeping of R41: some operation was refused -/
  refused : Bool
  /-- wave RAM (R60): the environment's, which the block only reads -/
  ram : Memory
  /-- the MODEL's: what the environment does next, oldest first -/
  input : List Event
  /-- the MODEL's: what the last operation returned -/
  result : Result
  /-- the MODEL's: how many free values have been drawn -/
  draws : Nat
deriving DecidableEq, Repr

/-- There is no fault: R300 ("No operation of 30_encoding.md rule R80 can fault, trap, abort or stop the block") and R305. -/
inductive Fault where
deriving DecidableEq, Repr

/-- Why a step has no meaning. -/
inductive Refusal where
  /-- raised by `exec`'s arm of an operation without a meaning; there is none (safe) -/
  | notModelled (mnemonic : String)
  /-- raised by `step` on a transaction that is none of the operations of R80 (safe: the run ends; assumption log 3) -/
  | malformedTransaction (why : DecodeError)
deriving DecidableEq, Repr

/-- An LFO after reset (R43). -/
def Lfo.idle : Lfo := { phase := 0, phaseStep := 0, wave := .none, depth := 0 }

/-- A slot after reset (R43). -/
def Slot.idle : Slot :=
  { active := false
    lpend := false
    curAddr := 0
    nxtAddr := 0
    prvAddr := 0
    step := 0
    eg := { state := .release, volume := 0, ar := 0, d1r := 0, d2r := 0, rr := 0, dl := 0, hold := false }
    ad := { sample := 0, quant := 0, step := 0, base := 0, lpSample := 0, lpQuant := 0 }
    plfo := Lfo.idle
    alfo := Lfo.idle }

/-- The fader after reset (R43). -/
def Fader.idle : Fader :=
  { counter := 0, beginAt := 0xFFFFFFFF, endAt := 0xFFFFFFFF, enabled := false, done := false }

/-- The initial state (R331): what RESET produces, with `refused = false`. The NOISE table is draw 0. The parameters are
the spec's defaults, the reference tables among them, and `RAM_SIZE` is 8 MiB (assumption log 6, 8); wave RAM lists nothing (assumption log 9). -/
def State.reset : State :=
  { params := { ramSize := .mib8, egFrac := .frac10, skipD1 := .doc, tables := Tables.reference }
    regs := []
    slots := Vector.replicate 64 Slot.idle
    timCnt := Vector.replicate 3 0xFFFF
    irq := false
    irqSrc := .none
    midiPending := false
    fade := Fader.idle
    noise := Vector.ofFn fun i => Config.drawNoise 0 i.val
    refused := false
    ram := []
    input := []
    result := .none
    draws := 1 }

end Sys2Proof.Machine
end

