-- ==== Sys2Proof/Machine/Ops.lean ====
section
/-! DEFINITION. The named operations over registers, slots, wave RAM and the interrupt line that the meanings share, and
the arithmetic of spec/00_scope.md R13.

The block raises no exception and has no trap entry or return (spec/60_exceptions.md R300, R310, R311). What stands in
their place is here, once: the refusal of an operation (`State.refuse`, R303), and asserting and deasserting the
interrupt line (`State.assertIrq`, `State.deassertIrq`, R265, R266, R268). -/

namespace Sys2Proof.Machine

/-! ### Arithmetic -/

/-- `a >> n` on a signed value: the floor of `a / 2^n` (R13). -/
def sar (a : Int) (n : Nat) : Int := a / 2 ^ n

/-- `clamp(x, lo, hi)` (R13). -/
def clamp (x lo hi : Int) : Int := min (max x lo) hi

/-- `clip16(x)` (R13). -/
def clip16 (x : Int) : Int := clamp x (-32768) 32767

/-! ### Sparse storage in canonical form -/

/-- The value at `a`; 0 where `a` is not listed. -/
def cellsRead {n : Nat} : List (Nat × BitVec n) → Nat → BitVec n
  | [], _ => 0
  | (b, v) :: rest, a => if a = b then v else cellsRead rest a

/-- Put `v` at `a`, keeping the canonical form: addresses rise, and no entry is 0. -/
def cellsWrite {n : Nat} : List (Nat × BitVec n) → Nat → BitVec n → List (Nat × BitVec n)
  | [], a, v => if v = 0 then [] else [(a, v)]
  | (b, w) :: rest, a, v =>
    if a < b then (if v = 0 then (b, w) :: rest else (a, v) :: (b, w) :: rest)
    else if a = b then (if v = 0 then rest else (a, v) :: rest)
    else (b, w) :: cellsWrite rest a v

/-- Every entry from here on has an address of at least `lo`, addresses rise strictly, and no entry is 0. -/
def cellsWfFrom {n : Nat} : Nat → List (Nat × BitVec n) → Bool
  | _, [] => true
  | lo, (b, w) :: rest => decide (lo ≤ b) && w != 0 && cellsWfFrom (b + 1) rest

/-- The canonical form: equal contents are equal data. -/
def cellsWf {n : Nat} (c : List (Nat × BitVec n)) : Bool := cellsWfFrom 0 c

/-- Wave RAM is in the canonical form. -/
def Memory.wf (m : Memory) : Bool := cellsWf m

/-- The register file is in the canonical form. -/
def RegFile.wf (r : RegFile) : Bool := cellsWf r

/-! ### Registers -/

/-- `Reg[a]` (R14). -/
def State.reg (s : State) (a : Nat) : Word := cellsRead s.regs a

/-- `Reg[a] <- v`, without side effects (R14). -/
def State.setReg (s : State) (a : Nat) (v : Word) : State := { s with regs := cellsWrite s.regs a v }

/-- The byte offset of slot `i`'s word at slot-relative offset `o` (R22). -/
def slotReg (i : Fin 64) (o : Nat) : Nat := i.val * 0x80 + o

/-- `SR(s, o)` (R14). -/
def State.sr (s : State) (i : Fin 64) (o : Nat) : Word := s.reg (slotReg i o)

/-- The word a byte-enabled write leaves: `(w & ~m) | (v & m)` (R66). -/
def merge (w v m : Word) : Word := (w &&& ~~~ m) ||| (v &&& m)

/-- `store(a, v, m)` (R120). -/
def State.store (s : State) (a : Nat) (v m : Word) : State := s.setReg a (merge (s.reg a) v m)

/-! ### Slots, counters, line, result -/

/-- Replace slot `i`'s runtime state. -/
def State.setSlot (s : State) (i : Fin 64) (x : Slot) : State := { s with slots := s.slots.set i.val x }

/-- Replace timer `k`'s counter. -/
def State.setTim (s : State) (k : Fin 3) (c : BitVec 16) : State := { s with timCnt := s.timCnt.set k.val c }

/-- Replace the fader. -/
def State.setFade (s : State) (f : Fader) : State := { s with fade := f }

/-- Set the number of free values drawn. -/
def State.setDraws (s : State) (d : Nat) : State := { s with draws := d }

/-- Set what the operation returns. -/
def State.ret (s : State) (r : Result) : State := { s with result := r }

/-- Assert the interrupt line for a source: `irq <- true; irq_src <- src` (R265). -/
def State.assertIrq (s : State) (src : IrqSrc) : State := { s with irq := true, irqSrc := src }

/-- Deassert the interrupt line; `irq_src` is kept (R266, R268). -/
def State.deassertIrq (s : State) : State := { s with irq := false }

/-- The MIDI FIFO's input (R269). -/
def State.setMidi (s : State) (p : Bool) : State := { s with midiPending := p }

/-- `Refuse(reason)` (R303): the mark is set, no value is returned, and nothing else changes. -/
def State.refuse (s : State) (why : RefuseReason) : State := { s with refused := true, result := .refused why }

/-! ### Wave RAM -/

/-- `WAVE_MASK` = 0x7FFFFF (R9) applied to a byte address: its low 23 bits. -/
def waveMask (addr : Nat) : Nat := addr % 0x800000

/-- `MemRead(addr, 1)` (R61, R62): the byte at the masked address, or a fresh `Draw` at `RAM_SIZE` and above. The
second component is the draw counter after the read. -/
def State.memByte (s : State) (addr draws : Nat) : Byte × Nat :=
  if waveMask addr < s.params.ramSize.bytes then (cellsRead s.ram (waveMask addr), draws)
  else (Config.drawByte draws, draws + 1)

/-- `MemRead(addr, 2)` (R62): little-endian, the two bytes read independently. -/
def State.memWord (s : State) (addr draws : Nat) : Word × Nat :=
  let lo := s.memByte addr draws
  let hi := s.memByte (waveMask addr + 1) lo.2
  (hi.1 ++ lo.1, hi.2)

/-- The environment's write of one byte of wave RAM (R320); a byte at `RAM_SIZE` or above is clamped away (R335). -/
def State.pokeRam (s : State) (a : Nat) (b : Byte) : State :=
  if a < s.params.ramSize.bytes then { s with ram := cellsWrite s.ram a b } else s

/-! ### Forced stop -/

/-- `ForcedStop(s)` (R160): the slot is inactive and its KYONB is cleared. -/
def State.forcedStop (s : State) (i : Fin 64) : State :=
  (s.setSlot i { s.slots[i] with active := false }).setReg (slotReg i 0x00) (s.sr i 0x00 &&& ~~~ 0x4000)

end Sys2Proof.Machine
end

