-- ==== Sys2Proof/Machine/Operands.lean ====
section
/-! DEFINITION. The operand forms (spec/30_encoding.md R87, R88): bit slices of register words, the fields of a slot
(spec/10_state.md R24), of an effect return (R25) and of a timer word (R26), and the f64 operands of FADE_CONFIGURE (R281, R282). -/

namespace Sys2Proof.Machine

/-- `v[hi:lo]` as an unsigned number (R12). -/
def bits (v : Word) (hi lo : Nat) : Nat := v.toNat / 2 ^ lo % 2 ^ (hi + 1 - lo)

/-- The two's-complement value of a 4-bit field, `sext4` (R87). -/
def sext4 (n : Nat) : Int := if n < 8 then n else n - 16

/-- Slot word 0x00 (R24). -/
def State.kyonex (s : State) (i : Fin 64) : Bool := (s.sr i 0x00).getLsbD 15
@[inherit_doc State.kyonex] def State.kyonb (s : State) (i : Fin 64) : Bool := (s.sr i 0x00).getLsbD 14
@[inherit_doc State.kyonex] def State.ssctl (s : State) (i : Fin 64) : Bool := (s.sr i 0x00).getLsbD 10
@[inherit_doc State.kyonex] def State.lpctl (s : State) (i : Fin 64) : Bool := (s.sr i 0x00).getLsbD 9
@[inherit_doc State.kyonex] def State.pcms (s : State) (i : Fin 64) : Nat := bits (s.sr i 0x00) 8 7

/-- SA, the 23-bit byte address of slot words 0x00 and 0x04 (R24, R88). -/
def State.sa (s : State) (i : Fin 64) : Nat := bits (s.sr i 0x00) 6 0 * 65536 + (s.sr i 0x04).toNat

/-- LSA, slot word 0x08 (R24). -/
def State.lsa (s : State) (i : Fin 64) : Nat := (s.sr i 0x08).toNat

/-- LEA, slot word 0x0C (R24). -/
def State.lea (s : State) (i : Fin 64) : Nat := (s.sr i 0x0C).toNat

/-- Slot word 0x10 (R24): D2R, D1R, EGHOLD, AR. -/
def State.d2r (s : State) (i : Fin 64) : Nat := bits (s.sr i 0x10) 15 11
@[inherit_doc State.d2r] def State.d1r (s : State) (i : Fin 64) : Nat := bits (s.sr i 0x10) 10 6
@[inherit_doc State.d2r] def State.eghold (s : State) (i : Fin 64) : Bool := (s.sr i 0x10).getLsbD 5
@[inherit_doc State.d2r] def State.ar (s : State) (i : Fin 64) : Nat := bits (s.sr i 0x10) 4 0

/-- Slot word 0x14 (R24): LPSLNK, KRS, DL, RR. -/
def State.lpslnk (s : State) (i : Fin 64) : Bool := (s.sr i 0x14).getLsbD 14
@[inherit_doc State.lpslnk] def State.krs (s : State) (i : Fin 64) : Nat := bits (s.sr i 0x14) 13 10
@[inherit_doc State.lpslnk] def State.dl (s : State) (i : Fin 64) : Nat := bits (s.sr i 0x14) 9 5
@[inherit_doc State.lpslnk] def State.rr (s : State) (i : Fin 64) : Nat := bits (s.sr i 0x14) 4 0

/-- Slot word 0x18 (R24): OCT, a signed field (R87), and FNS. -/
def State.oct (s : State) (i : Fin 64) : Int := sext4 (bits (s.sr i 0x18) 14 11)
@[inherit_doc State.oct] def State.fns (s : State) (i : Fin 64) : Nat := bits (s.sr i 0x18) 9 0

/-- Slot word 0x1C (R24): LFOF, PLFOWS, PLFOS, ALFOWS, ALFOS; LFORE has no effect (R226). -/
def State.lfof (s : State) (i : Fin 64) : Nat := bits (s.sr i 0x1C) 14 10
@[inherit_doc State.lfof] def State.plfows (s : State) (i : Fin 64) : Nat := bits (s.sr i 0x1C) 9 8
@[inherit_doc State.lfof] def State.plfos (s : State) (i : Fin 64) : Nat := bits (s.sr i 0x1C) 7 5
@[inherit_doc State.lfof] def State.alfows (s : State) (i : Fin 64) : Nat := bits (s.sr i 0x1C) 4 3
@[inherit_doc State.lfof] def State.alfos (s : State) (i : Fin 64) : Nat := bits (s.sr i 0x1C) 2 0

/-- Slot word 0x20 (R24): IMXL, ISEL. -/
def State.imxl (s : State) (i : Fin 64) : Nat := bits (s.sr i 0x20) 7 4
@[inherit_doc State.imxl] def State.isel (s : State) (i : Fin 64) : BitVec 4 := (s.sr i 0x20).extractLsb' 0 4

/-- Slot word 0x24 (R24): DISDL, DIPAN. -/
def State.disdl (s : State) (i : Fin 64) : Nat := bits (s.sr i 0x24) 11 8
@[inherit_doc State.disdl] def State.dipan (s : State) (i : Fin 64) : Nat := bits (s.sr i 0x24) 4 0

/-- TL of slot word 0x28 (R24). -/
def State.tl (s : State) (i : Fin 64) : Nat := bits (s.sr i 0x28) 15 8

/-- EFSDL and EFPAN of effect return `n` (R25). -/
def State.efsdl (s : State) (n : Nat) : Nat := bits (s.reg (0x2000 + 4 * n)) 11 8
@[inherit_doc State.efsdl] def State.efpan (s : State) (n : Nat) : Nat := bits (s.reg (0x2000 + 4 * n)) 4 0

/-- Timer `k`'s word `T(k)` at `0x2890 + 4 k` (spec/45_timers_irq.md, introduction). -/
def timerReg (k : Fin 3) : Nat := 0x2890 + 4 * k.val

/-- A sign test on an f64 pattern: the sign bit is set and the value is not a zero (assumption log 13). -/
def f64Negative (b : BitVec 64) : Bool := b.getLsbD 63 && decide (b.toNat % 2 ^ 63 ≠ 0)

/-- The f64 pattern is an infinity or a NaN. -/
def f64NotFinite (b : BitVec 64) : Bool := b.toNat / 2 ^ 52 % 2048 == 2047

/-- FADE_CONFIGURE refuses a negative, infinite or NaN operand (R281, R303). -/
def badFadeOperand (b : BitVec 64) : Bool := f64NotFinite b || f64Negative b

/-- The f64 pattern is a zero of either sign. -/
def f64IsZero (b : BitVec 64) : Bool := b.toNat % 2 ^ 63 == 0

/-- The significand of an f64 pattern: its value is `f64Mant b * 2 ^ (f64Exp b - 1075)` up to sign. -/
def f64Mant (b : BitVec 64) : Nat :=
  if b.toNat / 2 ^ 52 % 2048 = 0 then b.toNat % 2 ^ 52 else 2 ^ 52 + b.toNat % 2 ^ 52

@[inherit_doc f64Mant] def f64Exp (b : BitVec 64) : Nat :=
  if b.toNat / 2 ^ 52 % 2048 = 0 then 1 else b.toNat / 2 ^ 52 % 2048

/-- `round(seconds * 44100)` of a finite non-negative f64: the product is exact, halves round away from zero (R282). -/
def samplesOfSeconds (b : BitVec 64) : Nat :=
  let n := f64Mant b * 44100
  if 1075 ≤ f64Exp b then n * 2 ^ (f64Exp b - 1075)
  else (n + 2 ^ (1074 - f64Exp b)) / 2 ^ (1075 - f64Exp b)

/-- `sat32(n) = min(n, 0xFFFFFFFF)` (R282). -/
def sat32 (n : Nat) : U32 := BitVec.ofNat 32 (min n 0xFFFFFFFF)

end Sys2Proof.Machine
end

