-- ==== Sys2Proof/Machine/Fade.lean ====
section
/-! DEFINITION. The length/fade envelope (spec/46_fade.md R280 to R287). -/

namespace Sys2Proof.Machine

/-- The fader FADE_CONFIGURE leaves, for operands it admits (R281): a length of 0 never fades; the counter stays. -/
def Fader.configure (f : Fader) (lengthS fadeS : BitVec 64) : Fader :=
  if f64IsZero lengthS then
    { counter := f.counter, beginAt := 0xFFFFFFFF, endAt := 0xFFFFFFFF, enabled := false, done := false }
  else
    let b := sat32 (samplesOfSeconds lengthS)
    { counter := f.counter
      beginAt := b
      endAt := sat32 (b.toNat + samplesOfSeconds fadeS)
      enabled := true
      done := false }

/-- The fader value of a ramp sample (R283, R284): `256 - floor(256 * (c - begin) / (end - begin))`. -/
def Fader.ramp (f : Fader) : Int :=
  256 - (256 * (f.counter.toNat - f.beginAt.toNat) / (f.endAt.toNat - f.beginAt.toNat) : Nat)

/-- The counter has come to the end, or did so before (R283). -/
def Fader.atEnd (f : Fader) : Bool := f.enabled && (f.done || decide (f.endAt.toNat ≤ f.counter.toNat))

/-- One sample of a channel through the fader (R283). -/
def Fader.apply (f : Fader) (x : Int) : Int :=
  if !f.enabled then x
  else if f.atEnd then 0
  else if f.beginAt.toNat ≤ f.counter.toNat then sar (x * f.ramp) 8
  else x

/-- The fader after one sample (R283): the counter advances in every branch, and `done` is set at the end. -/
def Fader.next (f : Fader) : Fader := { f with counter := f.counter + 1, done := f.done || f.atEnd }

/-- FADE_CONFIGURE (R281). -/
def execFadeConfigure (lengthS fadeS : BitVec 64) (s : State) : Host.Outcome State Fault Refusal :=
  .next (if badFadeOperand lengthS || badFadeOperand fadeS then s.refuse .badFadeOperand
    else (s.setFade (s.fade.configure lengthS fadeS)).ret .none)

/-- FADE_ADVANCE (R283). -/
def execFadeAdvance (l r : Word) (s : State) : Host.Outcome State Fault Refusal :=
  .next ((s.setFade s.fade.next).ret (.stereo (s.fade.apply l.toInt) (s.fade.apply r.toInt)))

/-- FADE_COUNT (R286). -/
def execFadeCount (s : State) : Host.Outcome State Fault Refusal := .next (s.ret (.count s.fade.counter))

/-- FADE_TOTAL (R287). -/
def execFadeTotal (s : State) : Host.Outcome State Fault Refusal := .next (s.ret (.count s.fade.endAt))

end Sys2Proof.Machine
end

