-- ==== Sys2Proof/Machine/Flags.lean ====
section
/-! DEFINITION. The status bits of the block (spec/10_state.md R21) and what sets them: the timers' pending bits and the
interrupt line (spec/45_timers_irq.md R261, R263, R265, R266, R268, R270). The block has no condition codes. -/

namespace Sys2Proof.Machine

/-- SCIEB, the interrupt enable word (R26). -/
def scieb : Nat := 0x289C

/-- SCIPD, the interrupt pending word (R26). -/
def scipd : Nat := 0x28A0

/-- SCIRE, the interrupt reset word (R26). -/
def scire : Nat := 0x28A4

/-- IRQL and IRQR (R31). -/
def irql : Nat := 0x2D00
@[inherit_doc irql] def irqr : Nat := 0x2D04

/-- The pending and enable bit of timer `k`, `0x40 << k` (R263). -/
def timerBit (k : Fin 3) : Word := 0x40#16 <<< k.val

/-- Set timer `k`'s pending bit in SCIPD (R261). -/
def State.setPending (s : State) (k : Fin 3) : State := s.setReg scipd (s.reg scipd ||| timerBit k)

/-- Timer `k` is pending and enabled (R265). -/
def State.timerAsserts (s : State) (k : Fin 3) : Bool := s.reg scipd &&& s.reg scieb &&& timerBit k != 0

/-- `CheckIrq()` (R265): MIDI first, then timers A, B, C; it never deasserts. -/
def State.checkIrq (s : State) : State :=
  if s.midiPending then s.assertIrq .midi
  else if s.timerAsserts 0 then s.assertIrq .tima
  else if s.timerAsserts 1 then s.assertIrq .timb
  else if s.timerAsserts 2 then s.assertIrq .timc
  else s

/-- The value the line presents (R270): none while it is deasserted, else the OPEN function of the source and SCILV0 to SCILV2. -/
def State.irqLine (s : State) : Option Nat :=
  if s.irq then some (Config.irqLevel s.irqSrc (s.reg 0x28A8) (s.reg 0x28AC) (s.reg 0x28B0)) else none

/-- The reference's value of `IRQ_LEVEL` (R270), which the spec gives beside the OPEN function and no rule uses: the
source's bit of SCILV0, SCILV1 and SCILV2. -/
def irqLevelReference (src : IrqSrc) (lv0 lv1 lv2 : Word) : Option Nat :=
  let level (b : Nat) := (lv0.getLsbD b).toNat + 2 * (lv1.getLsbD b).toNat + 4 * (lv2.getLsbD b).toNat
  match src with
  | .none => Option.none
  | .midi => some (level 3)
  | .tima => some (level 6)
  | .timb => some (level 7)
  | .timc => some (level 7)

end Sys2Proof.Machine
end

