-- ==== Sys2Proof/Machine/HostRead.lean ====
section
/-! DEFINITION. The host reads (spec/40_register_access.md R121 to R124, spec/30_encoding.md R84, R86, spec/60_exceptions.md R303). -/

namespace Sys2Proof.Machine

/-- A read that returns the stored word and changes nothing else (R68). -/
def State.readStored (s : State) (a : Word) : State := s.ret (.word (s.reg a.toNat))

/-- A read that returns a `Draw` (R84). -/
def State.readDraw (s : State) : State := (s.setDraws (s.draws + 1)).ret (.word (Config.drawWord s.draws))

/-- R16 at an odd offset: `Refuse(odd_offset)` (R82 row 1, R303). -/
def execR16RefuseOdd (_a : Word) (s : State) : Host.Outcome State Fault Refusal := .next (s.refuse .oddOffset)

/-- R16 at 0x8000 or above: `Refuse(offset_out_of_window)` (R82 row 1, R303). -/
def execR16RefuseWindow (_a : Word) (s : State) : Host.Outcome State Fault Refusal := .next (s.refuse .offsetOutOfWindow)

/-- R16_SLOT (R121). -/
def execR16Slot (a : Word) (s : State) : Host.Outcome State Fault Refusal := .next (s.readStored a)

/-- R16_EFSPAN (R122). -/
def execR16Efspan (a : Word) (s : State) : Host.Outcome State Fault Refusal := .next (s.readStored a)

/-- R16_UNMAPPED (R84). -/
def execR16Unmapped (_a : Word) (s : State) : Host.Outcome State Fault Refusal := .next s.readDraw

/-- R16_REFUSED: `Refuse(out_of_scope_register(a))` (R86). -/
def execR16Refused (a : Word) (s : State) : Host.Outcome State Fault Refusal := .next (s.refuse (.outOfScopeRegister a))

/-- R16_MONITOR (R84, R29). -/
def execR16Monitor (_a : Word) (s : State) : Host.Outcome State Fault Refusal := .next s.readDraw

/-- R16_COMMON (R123). -/
def execR16Common (a : Word) (s : State) : Host.Outcome State Fault Refusal := .next (s.readStored a)

/-- R16_IRQREG (R124). -/
def execR16Irqreg (a : Word) (s : State) : Host.Outcome State Fault Refusal := .next (s.readStored a)

end Sys2Proof.Machine
end

