-- ==== Sys2Proof/Machine/TablesEg.lean ====
section
/-! DEFINITION. The reference values of the envelope tables: AR_TABLE and DR_TABLE (spec/41_envelope.md R151) for both values
of `EG_FRAC`, and EG_TABLE (R152).

The AR and DR values are the spec's literal lists. EG_TABLE is R152's formula, evaluated in double precision when this
file was written; the entries that R152 lists are tested in `Sys2Proof/Tests/Slice0.lean`. Assumption log 8. -/

namespace Sys2Proof.Machine

/-- Entry `i` of a table written in rows of `w`; 0 beyond its end, which no index formed by the rules reaches (assumption log 22). -/
def tableGet (t : List (List Nat)) (w i : Nat) : Nat := (t.getD (i / w) []).getD (i % w) 0

/-- AR_TABLE for `EG_FRAC` = 10 (R151). -/
def arTable10 : List (List Nat) :=
  [[0, 0, 2, 3, 3, 4, 5, 6],
   [7, 9, 11, 13, 15, 19, 23, 27],
   [31, 39, 47, 55, 62, 79, 95, 107],
   [125, 158, 182, 215, 250, 312, 377, 431],
   [505, 625, 766, 879, 989, 1250, 1583, 1827],
   [1979, 2527, 3006, 3493, 3959, 5054, 6251, 6986],
   [7918, 9897, 11877, 13196, 14846, 18272, 21594, 25541],
   [27945, 36544, 44818, 53986, 59385, 67868, 1048576, 1048576]]

/-- DR_TABLE for `EG_FRAC` = 10 (R151). -/
def drTable10 : List (List Nat) :=
  [[0, 0, 0, 0, 0, 0, 0, 0],
   [0, 0, 0, 0, 1, 1, 1, 1],
   [2, 2, 3, 3, 4, 5, 6, 7],
   [8, 10, 13, 14, 16, 21, 25, 30],
   [34, 43, 51, 60, 69, 87, 103, 118],
   [139, 169, 215, 242, 279, 349, 416, 484],
   [552, 698, 848, 950, 1079, 1319, 1696, 1979],
   [2159, 2794, 3345, 3894, 4398, 5524, 6598, 7662]]

/-- AR_TABLE for `EG_FRAC` = 16 (R151). -/
def arTable16 : List (List Nat) :=
  [[0, 0, 187, 220, 253, 316, 380, 447],
   [506, 633, 760, 894, 1013, 1266, 1520, 1767],
   [2000, 2533, 3040, 3535, 4000, 5067, 6081, 6910],
   [8001, 10135, 11694, 13820, 16002, 20003, 24131, 27641],
   [32345, 40006, 49040, 56305, 63344, 80013, 101350, 116942],
   [126688, 161729, 192437, 223567, 253376, 323458, 400067, 447134],
   [506752, 633440, 760128, 844587, 950160, 1169428, 1382051, 1634684],
   [1788537, 2338856, 2868409, 3455129, 3800642, 4343591, 67108864, 67108864]]

/-- DR_TABLE for `EG_FRAC` = 16 (R151). -/
def drTable16 : List (List Nat) :=
  [[0, 0, 12, 15, 17, 21, 25, 29],
   [34, 42, 51, 60, 68, 85, 102, 119],
   [136, 170, 205, 241, 276, 345, 410, 475],
   [542, 691, 844, 950, 1085, 1382, 1652, 1924],
   [2203, 2764, 3304, 3898, 4471, 5630, 6609, 7601],
   [8942, 10858, 13820, 15512, 17885, 22356, 26671, 31025],
   [35354, 44713, 54294, 60810, 69102, 84458, 108589, 126688],
   [138205, 178853, 214120, 249222, 281529, 353548, 422293, 490405]]

/-- The reference value of `AR_TABLE[i]` (R151). -/
def arEntry (f : EgFrac) (i : Nat) : Nat :=
  match f with
  | .frac10 => tableGet arTable10 8 i
  | .frac16 => tableGet arTable16 8 i

/-- The reference value of `DR_TABLE[i]` (R151). -/
def drEntry (f : EgFrac) (i : Nat) : Nat :=
  match f with
  | .frac10 => tableGet drTable10 8 i
  | .frac16 => tableGet drTable16 8 i

/-- EG_TABLE entries 0 to 255 (R152). -/
def egTable0 : List (List Nat) :=
  [[0, 0, 0, 0, 0, 0, 0, 0, 0, 0, 0, 0, 0, 0, 0, 0],
   [0, 0, 0, 0, 0, 0, 0, 0, 0, 0, 0, 0, 0, 0, 0, 0],
   [0, 0, 0, 0, 0, 0, 0, 0, 0, 0, 0, 0, 0, 0, 0, 0],
   [0, 0, 0, 0, 0, 0, 0, 0, 0, 0, 0, 0, 0, 0, 0, 0],
   [0, 0, 0, 0, 0, 0, 0, 0, 0, 0, 0, 0, 0, 0, 0, 0],
   [0, 0, 0, 0, 0, 0, 0, 0, 0, 0, 0, 0, 0, 0, 0, 0],
   [0, 0, 0, 0, 0, 0, 0, 0, 0, 0, 0, 0, 0, 0, 0, 0],
   [0, 0, 0, 0, 0, 0, 0, 0, 0, 0, 0, 0, 0, 0, 0, 0],
   [0, 0, 0, 0, 0, 0, 0, 0, 0, 0, 0, 0, 0, 0, 0, 0],
   [0, 0, 0, 0, 0, 0, 0, 0, 0, 0, 0, 0, 0, 0, 0, 0],
   [0, 0, 0, 0, 0, 0, 0, 0, 0, 0, 0, 0, 0, 0, 0, 0],
   [0, 0, 0, 0, 0, 0, 0, 0, 0, 0, 0, 0, 0, 0, 0, 0],
   [0, 0, 0, 0, 0, 0, 0, 0, 0, 0, 0, 0, 0, 0, 0, 0],
   [0, 0, 0, 0, 0, 0, 0, 0, 0, 0, 0, 0, 0, 0, 0, 0],
   [0, 0, 0, 0, 0, 0, 0, 0, 0, 0, 0, 0, 0, 0, 0, 0],
   [0, 0, 0, 0, 0, 0, 0, 0, 0, 0, 0, 0, 0, 1, 1, 1]]

/-- EG_TABLE entries 256 to 511 (R152). -/
def egTable1 : List (List Nat) :=
  [[1, 1, 1, 1, 1, 1, 1, 1, 1, 1, 1, 1, 1, 1, 1, 1],
   [1, 1, 1, 1, 1, 1, 1, 1, 1, 1, 1, 1, 1, 1, 1, 1],
   [1, 1, 1, 1, 1, 1, 1, 1, 1, 1, 1, 1, 1, 1, 1, 1],
   [1, 1, 1, 1, 1, 1, 1, 1, 1, 1, 1, 1, 1, 2, 2, 2],
   [2, 2, 2, 2, 2, 2, 2, 2, 2, 2, 2, 2, 2, 2, 2, 2],
   [2, 2, 2, 2, 2, 2, 2, 2, 2, 2, 2, 2, 2, 2, 2, 2],
   [2, 2, 2, 3, 3, 3, 3, 3, 3, 3, 3, 3, 3, 3, 3, 3],
   [3, 3, 3, 3, 3, 3, 3, 3, 3, 3, 3, 3, 3, 4, 4, 4],
   [4, 4, 4, 4, 4, 4, 4, 4, 4, 4, 4, 4, 4, 4, 4, 4],
   [4, 4, 5, 5, 5, 5, 5, 5, 5, 5, 5, 5, 5, 5, 5, 5],
   [5, 5, 5, 6, 6, 6, 6, 6, 6, 6, 6, 6, 6, 6, 6, 6],
   [6, 7, 7, 7, 7, 7, 7, 7, 7, 7, 7, 7, 7, 7, 8, 8],
   [8, 8, 8, 8, 8, 8, 8, 8, 9, 9, 9, 9, 9, 9, 9, 9],
   [9, 9, 10, 10, 10, 10, 10, 10, 10, 10, 10, 11, 11, 11, 11, 11],
   [11, 11, 11, 12, 12, 12, 12, 12, 12, 12, 12, 13, 13, 13, 13, 13],
   [13, 14, 14, 14, 14, 14, 14, 14, 15, 15, 15, 15, 15, 15, 16, 16]]

/-- EG_TABLE entries 512 to 767 (R152). -/
def egTable2 : List (List Nat) :=
  [[16, 16, 16, 17, 17, 17, 17, 17, 17, 18, 18, 18, 18, 18, 19, 19],
   [19, 19, 20, 20, 20, 20, 20, 21, 21, 21, 21, 22, 22, 22, 22, 23],
   [23, 23, 23, 24, 24, 24, 24, 25, 25, 25, 25, 26, 26, 26, 27, 27],
   [27, 27, 28, 28, 28, 29, 29, 29, 30, 30, 30, 31, 31, 31, 32, 32],
   [32, 33, 33, 33, 34, 34, 35, 35, 35, 36, 36, 37, 37, 37, 38, 38],
   [39, 39, 39, 40, 40, 41, 41, 42, 42, 43, 43, 44, 44, 44, 45, 45],
   [46, 46, 47, 47, 48, 49, 49, 50, 50, 51, 51, 52, 52, 53, 54, 54],
   [55, 55, 56, 57, 57, 58, 58, 59, 60, 60, 61, 62, 62, 63, 64, 64],
   [65, 66, 67, 67, 68, 69, 70, 70, 71, 72, 73, 73, 74, 75, 76, 77],
   [77, 78, 79, 80, 81, 82, 83, 84, 85, 85, 86, 87, 88, 89, 90, 91],
   [92, 93, 94, 95, 96, 97, 98, 99, 101, 102, 103, 104, 105, 106, 107, 108],
   [110, 111, 112, 113, 115, 116, 117, 118, 120, 121, 122, 124, 125, 126, 128, 129],
   [130, 132, 133, 135, 136, 138, 139, 141, 142, 144, 145, 147, 149, 150, 152, 153],
   [155, 157, 159, 160, 162, 164, 166, 167, 169, 171, 173, 175, 177, 179, 180, 182],
   [184, 186, 188, 191, 193, 195, 197, 199, 201, 203, 206, 208, 210, 212, 215, 217],
   [219, 222, 224, 227, 229, 231, 234, 237, 239, 242, 244, 247, 250, 252, 255, 258]]

/-- EG_TABLE entries 768 to 1023 (R152). -/
def egTable3 : List (List Nat) :=
  [[261, 264, 266, 269, 272, 275, 278, 281, 284, 287, 291, 294, 297, 300, 303, 307],
   [310, 313, 317, 320, 324, 327, 331, 334, 338, 342, 345, 349, 353, 357, 361, 365],
   [369, 373, 377, 381, 385, 389, 393, 397, 402, 406, 411, 415, 420, 424, 429, 433],
   [438, 443, 448, 453, 457, 462, 467, 472, 478, 483, 488, 493, 499, 504, 510, 515],
   [521, 526, 532, 538, 544, 550, 556, 562, 568, 574, 580, 586, 593, 599, 606, 612],
   [619, 626, 633, 639, 646, 653, 660, 668, 675, 682, 690, 697, 705, 712, 720, 728],
   [736, 744, 752, 760, 768, 777, 785, 794, 802, 811, 820, 829, 838, 847, 856, 865],
   [875, 884, 894, 903, 913, 923, 933, 943, 953, 964, 974, 985, 996, 1006, 1017, 1028],
   [1040, 1051, 1062, 1074, 1085, 1097, 1109, 1121, 1133, 1146, 1158, 1171, 1183, 1196, 1209, 1222],
   [1236, 1249, 1263, 1276, 1290, 1304, 1318, 1333, 1347, 1362, 1376, 1391, 1407, 1422, 1437, 1453],
   [1469, 1485, 1501, 1517, 1533, 1550, 1567, 1584, 1601, 1618, 1636, 1654, 1672, 1690, 1708, 1727],
   [1746, 1764, 1784, 1803, 1823, 1842, 1862, 1883, 1903, 1924, 1945, 1966, 1987, 2009, 2030, 2052],
   [2075, 2097, 2120, 2143, 2166, 2190, 2213, 2237, 2262, 2286, 2311, 2336, 2362, 2387, 2413, 2439],
   [2466, 2493, 2520, 2547, 2575, 2603, 2631, 2659, 2688, 2717, 2747, 2777, 2807, 2837, 2868, 2899],
   [2931, 2963, 2995, 3027, 3060, 3093, 3127, 3161, 3195, 3230, 3265, 3300, 3336, 3372, 3409, 3446],
   [3483, 3521, 3559, 3598, 3637, 3676, 3716, 3757, 3797, 3839, 3880, 3922, 3965, 4008, 4052, 4096]]

/-- The reference value of `EG_TABLE[i]` (R152): the linear gain of a 10-bit level, in units of 2^-12. -/
def egEntry (i : Nat) : Nat := tableGet (egTable0 ++ (egTable1 ++ (egTable2 ++ egTable3))) 16 i

end Sys2Proof.Machine
end

