-- ==== Sys2Proof/Machine/TablesLfo.lean ====
section
/-! DEFINITION. The reference values of the LFO tables (spec/43_lfo.md R221 to R224): LFO_STEP, the waveforms, PSCALES and
ASCALES.

PSCALES and ASCALES are the spec's run-length coded lists, copied run by run: (value, count). Assumption log 8. -/

namespace Sys2Proof.Machine

/-- Entry `i` of a run-length coded table; 0 beyond its end (assumption log 22). -/
def runGet : List (Nat × Nat) → Nat → Nat
  | [], _ => 0
  | (v, n) :: rest, i => if i < n then v else runGet rest (i - n)

/-- `LFO_STEP[0..31]` (R221). -/
def lfoStepTable : List (List Nat) :=
  [[0, 0, 0, 0, 0, 0, 0, 0],
   [1, 1, 1, 1, 2, 2, 2, 3],
   [4, 4, 5, 7, 9, 10, 12, 16],
   [21, 25, 31, 40, 57, 82, 133, 307]]

/-- The reference value of `LFO_STEP[f]` (R221), for the 5-bit field LFOF. -/
def lfoStep (f : Nat) : Nat := (lfoStepTable.getD (f / 8) []).getD (f % 8) 0

/-- The reference values of the amplitude waveforms saw, square and triangle, `A_W[i]` for i in 0..255 (R222). -/
def ampSaw (i : Nat) : Int := 255 - i
@[inherit_doc ampSaw] def ampSquare (i : Nat) : Int := if i < 128 then 255 else 0
@[inherit_doc ampSaw] def ampTri (i : Nat) : Int := if i < 128 then 255 - 2 * i else 2 * i - 256

/-- The reference values of the pitch waveforms saw, square and triangle, `P_W[i]` for i in 0..255 (R222). -/
def pitchSaw (i : Nat) : Int := if i < 128 then i else i - 256
@[inherit_doc pitchSaw] def pitchSquare (i : Nat) : Int := if i < 128 then 127 else -128
@[inherit_doc pitchSaw] def pitchTri (i : Nat) : Int :=
  if i < 64 then 2 * i else if i < 128 then 255 - 2 * i else if i < 192 then 256 - 2 * i else 2 * i - 511

/-- `PSCALES[0]` (R223). -/
def pscales0 : List (Nat × Nat) :=
  [(256, 256)]

/-- `PSCALES[1]` (R223). -/
def pscales1 : List (Nat × Nat) :=
  [(254, 5), (255, 123), (256, 124), (257, 4)]

/-- `PSCALES[2]` (R223). -/
def pscales2 : List (Nat × Nat) :=
  [(254, 64), (255, 64), (256, 64), (257, 64)]

/-- `PSCALES[3]` (R223). -/
def pscales3 : List (Nat × Nat) :=
  [(252, 32), (253, 32), (254, 32), (255, 32), (256, 32), (257, 32), (258, 32), (259, 32)]

/-- `PSCALES[4]` (R223). -/
def pscales4 : List (Nat × Nat) :=
  [(247, 1), (248, 16), (249, 16), (250, 16), (251, 16), (252, 16), (253, 16), (254, 16), (255, 15), (256, 16),
    (257, 16), (258, 15), (259, 16), (260, 15), (261, 16), (262, 15), (263, 15), (264, 4)]

/-- `PSCALES[5]` (R223). -/
def pscales5 : List (Nat × Nat) :=
  [(239, 1), (240, 8), (241, 8), (242, 8), (243, 9), (244, 8), (245, 8), (246, 8), (247, 8), (248, 8),
    (249, 8), (250, 7), (251, 8), (252, 8), (253, 8), (254, 8), (255, 7), (256, 8), (257, 8), (258, 8),
    (259, 7), (260, 8), (261, 7), (262, 8), (263, 7), (264, 8), (265, 7), (266, 8), (267, 7), (268, 8),
    (269, 7), (270, 7), (271, 7), (272, 8)]

/-- `PSCALES[6]` (R223). -/
def pscales6 : List (Nat × Nat) :=
  [(224, 4), (225, 4), (226, 5), (227, 4), (228, 4), (229, 4), (230, 4), (231, 5), (232, 4), (233, 4),
    (234, 4), (235, 4), (236, 4), (237, 4), (238, 4), (239, 4), (240, 4), (241, 4), (242, 4), (243, 4),
    (244, 4), (245, 4), (246, 4), (247, 4), (248, 4), (249, 4), (250, 3), (251, 4), (252, 4), (253, 4),
    (254, 4), (255, 3), (256, 4), (257, 4), (258, 4), (259, 3), (260, 4), (261, 4), (262, 3), (263, 4)] ++
   ([(264, 4), (265, 3), (266, 4), (267, 4), (268, 3), (269, 4), (270, 3), (271, 4), (272, 3), (273, 4),
    (274, 3), (275, 4), (276, 3), (277, 4), (278, 3), (279, 4), (280, 3), (281, 4), (282, 3), (283, 4),
    (284, 3), (285, 3), (286, 4), (287, 3), (288, 3), (289, 4), (290, 3), (291, 3), (292, 1)])

/-- `PSCALES[7]` (R223). -/
def pscales7 : List (Nat × Nat) :=
  [(192, 2), (193, 2), (194, 2), (195, 3), (196, 2), (197, 2), (198, 3), (199, 2), (200, 2), (201, 2),
    (202, 2), (203, 3), (204, 2), (205, 2), (206, 2), (207, 2), (208, 3), (209, 2), (210, 2), (211, 2),
    (212, 2), (213, 2), (214, 2), (215, 2), (216, 2), (217, 2), (218, 2), (219, 3), (220, 2), (221, 2),
    (222, 2), (223, 2), (224, 2), (225, 2), (226, 2), (227, 2), (228, 2), (229, 1), (230, 2), (231, 2)] ++
   ([(232, 2), (233, 2), (234, 2), (235, 2), (236, 2), (237, 2), (238, 2), (239, 2), (240, 1), (241, 2),
    (242, 2), (243, 2), (244, 2), (245, 2), (246, 1), (247, 2), (248, 2), (249, 2), (250, 2), (251, 1),
    (252, 2), (253, 2), (254, 2), (255, 1), (256, 2), (257, 2), (258, 2), (259, 1), (260, 2), (261, 2),
    (262, 2), (263, 1), (264, 2), (265, 2), (266, 1), (267, 2), (268, 2), (269, 1), (270, 2), (271, 2)] ++
   ([(272, 1), (273, 2), (274, 2), (275, 1), (276, 2), (277, 1), (278, 2), (279, 2), (280, 1), (281, 2),
    (282, 1), (283, 2), (284, 2), (285, 1), (286, 2), (287, 1), (288, 2), (289, 1), (290, 2), (291, 2),
    (292, 1), (293, 2), (294, 1), (295, 2), (296, 1), (297, 2), (298, 1), (299, 2), (300, 1), (301, 2),
    (302, 1), (303, 2), (304, 1), (305, 2), (306, 1), (307, 1), (308, 2), (309, 1), (310, 2), (311, 1)] ++
   ([(312, 2), (313, 1), (314, 2), (315, 1), (316, 1), (317, 2), (318, 1), (319, 2), (320, 1), (321, 1),
    (322, 2), (323, 1), (324, 2), (325, 1), (326, 1), (327, 2), (328, 1), (329, 1), (330, 2), (331, 1),
    (332, 1), (333, 2), (334, 1), (335, 1), (336, 2), (337, 1), (338, 1), (339, 2)])))

/-- `ASCALES[0]` (R224). -/
def ascales0 : List (Nat × Nat) :=
  [(256, 256)]

/-- `ASCALES[1]` (R224). -/
def ascales1 : List (Nat × Nat) :=
  [(256, 1), (255, 21), (254, 22), (253, 22), (252, 22), (251, 22), (250, 22), (249, 23), (248, 22), (247, 22),
    (246, 23), (245, 23), (244, 11)]

/-- `ASCALES[2]` (R224). -/
def ascales2 : List (Nat × Nat) :=
  [(256, 1), (255, 10), (254, 11), (253, 11), (252, 11), (251, 11), (250, 11), (249, 12), (248, 11), (247, 11),
    (246, 11), (245, 12), (244, 11), (243, 11), (242, 12), (241, 11), (240, 12), (239, 11), (238, 12), (237, 12),
    (236, 12), (235, 11), (234, 12), (233, 6)]

/-- `ASCALES[3]` (R224). -/
def ascales3 : List (Nat × Nat) :=
  [(256, 1), (255, 5), (254, 6), (253, 6), (252, 6), (251, 6), (250, 6), (249, 6), (248, 6), (247, 6),
    (246, 6), (245, 6), (244, 6), (243, 6), (242, 6), (241, 6), (240, 6), (239, 6), (238, 7), (237, 6),
    (236, 6), (235, 6), (234, 7), (233, 6), (232, 6), (231, 7), (230, 6), (229, 7), (228, 6), (227, 7),
    (226, 6), (225, 7), (224, 6), (223, 7), (222, 7), (221, 6), (220, 7), (219, 7), (218, 7), (217, 7)] ++
   ([(216, 6), (215, 4)])

/-- `ASCALES[4]` (R224). -/
def ascales4 : List (Nat × Nat) :=
  [(256, 1), (255, 2), (254, 3), (253, 3), (252, 3), (251, 3), (250, 3), (249, 3), (248, 3), (247, 3),
    (246, 3), (245, 3), (244, 3), (243, 3), (242, 3), (241, 3), (240, 3), (239, 3), (238, 4), (237, 3),
    (236, 3), (235, 3), (234, 3), (233, 3), (232, 3), (231, 4), (230, 3), (229, 3), (228, 3), (227, 4),
    (226, 3), (225, 3), (224, 3), (223, 4), (222, 3), (221, 3), (220, 4), (219, 3), (218, 4), (217, 3)] ++
   ([(216, 3), (215, 4), (214, 3), (213, 4), (212, 3), (211, 4), (210, 3), (209, 4), (208, 3), (207, 4),
    (206, 4), (205, 3), (204, 4), (203, 3), (202, 4), (201, 4), (200, 3), (199, 4), (198, 4), (197, 4),
    (196, 3), (195, 4), (194, 4), (193, 4), (192, 4), (191, 4), (190, 3), (189, 4), (188, 4), (187, 4),
    (186, 4), (185, 4), (184, 4), (183, 4), (182, 4), (181, 3)])

/-- `ASCALES[5]` (R224). -/
def ascales5 : List (Nat × Nat) :=
  [(256, 1), (255, 1), (254, 1), (253, 2), (252, 1), (251, 2), (250, 1), (249, 2), (248, 1), (247, 2),
    (246, 1), (245, 2), (244, 1), (243, 2), (242, 1), (241, 2), (240, 1), (239, 2), (238, 2), (237, 1),
    (236, 2), (235, 1), (234, 2), (233, 1), (232, 2), (231, 2), (230, 1), (229, 2), (228, 1), (227, 2),
    (226, 2), (225, 1), (224, 2), (223, 2), (222, 1), (221, 2), (220, 2), (219, 1), (218, 2), (217, 2)] ++
   ([(216, 1), (215, 2), (214, 2), (213, 2), (212, 1), (211, 2), (210, 2), (209, 2), (208, 1), (207, 2),
    (206, 2), (205, 2), (204, 2), (203, 1), (202, 2), (201, 2), (200, 2), (199, 2), (198, 2), (197, 2),
    (196, 1), (195, 2), (194, 2), (193, 2), (192, 2), (191, 2), (190, 2), (189, 2), (188, 2), (187, 2),
    (186, 2), (185, 2), (184, 2), (183, 2), (182, 2), (181, 2), (180, 2), (179, 2), (178, 2), (177, 2)] ++
   ([(176, 2), (175, 2), (174, 3), (173, 2), (172, 2), (171, 2), (170, 2), (169, 2), (168, 3), (167, 2),
    (166, 2), (165, 2), (164, 3), (163, 2), (162, 2), (161, 2), (160, 3), (159, 2), (158, 2), (157, 3),
    (156, 2), (155, 2), (154, 3), (153, 2), (152, 3), (151, 2), (150, 3), (149, 2), (148, 3), (147, 2),
    (146, 3), (145, 2), (144, 3), (143, 2), (142, 3), (141, 3), (140, 2), (139, 3), (138, 3), (137, 2)] ++
   ([(136, 3), (135, 3), (134, 2), (133, 3), (132, 3), (131, 3), (130, 3), (129, 2), (128, 2)])))

/-- `ASCALES[6]` (R224). -/
def ascales6 : List (Nat × Nat) :=
  [(256, 1), (254, 1), (253, 1), (251, 1), (250, 1), (249, 1), (247, 1), (246, 1), (245, 1), (243, 1),
    (242, 1), (241, 1), (239, 1), (238, 1), (237, 1), (236, 1), (234, 1), (233, 1), (232, 1), (231, 1),
    (229, 1), (228, 1), (227, 1), (226, 1), (224, 1), (223, 1), (222, 1), (221, 1), (220, 1), (218, 1),
    (217, 1), (216, 1), (215, 1), (214, 1), (213, 1), (211, 1), (210, 1), (209, 1), (208, 1), (207, 1)] ++
   ([(206, 1), (205, 1), (204, 1), (202, 1), (201, 1), (200, 1), (199, 1), (198, 1), (197, 1), (196, 1),
    (195, 1), (194, 1), (193, 1), (192, 1), (191, 1), (190, 1), (189, 1), (188, 1), (187, 1), (186, 1),
    (185, 1), (184, 1), (183, 1), (182, 1), (181, 1), (180, 1), (179, 1), (178, 1), (177, 1), (176, 1),
    (175, 1), (174, 1), (173, 1), (172, 1), (171, 1), (170, 1), (169, 1), (168, 2), (167, 1), (166, 1)] ++
   ([(165, 1), (164, 1), (163, 1), (162, 1), (161, 1), (160, 2), (159, 1), (158, 1), (157, 1), (156, 1),
    (155, 1), (154, 2), (153, 1), (152, 1), (151, 1), (150, 2), (149, 1), (148, 1), (147, 1), (146, 2),
    (145, 1), (144, 1), (143, 1), (142, 2), (141, 1), (140, 1), (139, 2), (138, 1), (137, 1), (136, 2),
    (135, 1), (134, 1), (133, 2), (132, 1), (131, 2), (130, 1), (129, 1), (128, 2), (127, 1), (126, 2)] ++
   ([(125, 1), (124, 2), (123, 1), (122, 2), (121, 1), (120, 2), (119, 1), (118, 2), (117, 2), (116, 1),
    (115, 2), (114, 1), (113, 2), (112, 2), (111, 1), (110, 2), (109, 2), (108, 1), (107, 2), (106, 2),
    (105, 2), (104, 1), (103, 2), (102, 2), (101, 2), (100, 2), (99, 2), (98, 1), (97, 2), (96, 2),
    (95, 2), (94, 2), (93, 2), (92, 2), (91, 2), (90, 2), (89, 2), (88, 2), (87, 2), (86, 3)] ++
   ([(85, 2), (84, 2), (83, 2), (82, 2), (81, 3), (80, 2), (79, 2), (78, 3), (77, 2), (76, 3),
    (75, 2), (74, 2), (73, 3), (72, 3), (71, 2), (70, 3), (69, 2), (68, 3), (67, 3), (66, 3),
    (65, 3), (64, 1)]))))

/-- `ASCALES[7]` (R224). -/
def ascales7 : List (Nat × Nat) :=
  [(256, 1), (253, 1), (250, 1), (247, 1), (245, 1), (242, 1), (239, 1), (237, 1), (234, 1), (232, 1),
    (229, 1), (227, 1), (224, 1), (222, 1), (220, 1), (217, 1), (215, 1), (213, 1), (210, 1), (208, 1),
    (206, 1), (204, 1), (201, 1), (199, 1), (197, 1), (195, 1), (193, 1), (191, 1), (189, 1), (187, 1),
    (185, 1), (183, 1), (181, 1), (179, 1), (177, 1), (175, 1), (173, 1), (171, 1), (169, 1), (168, 1)] ++
   ([(166, 1), (164, 1), (162, 1), (160, 1), (159, 1), (157, 1), (155, 1), (154, 1), (152, 1), (150, 1),
    (149, 1), (147, 1), (146, 1), (144, 1), (142, 1), (141, 1), (139, 1), (138, 1), (136, 1), (135, 1),
    (133, 1), (132, 1), (131, 1), (129, 1), (128, 1), (126, 1), (125, 1), (124, 1), (122, 1), (121, 1),
    (120, 1), (118, 1), (117, 1), (116, 1), (115, 1), (113, 1), (112, 1), (111, 1), (110, 1), (109, 1)] ++
   ([(107, 1), (106, 1), (105, 1), (104, 1), (103, 1), (102, 1), (101, 1), (100, 1), (99, 1), (97, 1),
    (96, 1), (95, 1), (94, 1), (93, 1), (92, 1), (91, 1), (90, 1), (89, 1), (88, 1), (87, 1),
    (86, 2), (85, 1), (84, 1), (83, 1), (82, 1), (81, 1), (80, 1), (79, 1), (78, 2), (77, 1),
    (76, 1), (75, 1), (74, 1), (73, 2), (72, 1), (71, 1), (70, 2), (69, 1), (68, 1), (67, 2)] ++
   ([(66, 1), (65, 2), (64, 1), (63, 1), (62, 2), (61, 1), (60, 2), (59, 1), (58, 2), (57, 2),
    (56, 1), (55, 2), (54, 2), (53, 1), (52, 2), (51, 2), (50, 2), (49, 2), (48, 2), (47, 2),
    (46, 2), (45, 2), (44, 2), (43, 2), (42, 2), (41, 2), (40, 2), (39, 3), (38, 2), (37, 3),
    (36, 2), (35, 3), (34, 3), (33, 2), (32, 3), (31, 3), (30, 3), (29, 3), (28, 4), (27, 3)] ++
   ([(26, 3), (25, 4), (24, 4), (23, 4), (22, 4), (21, 4), (20, 5), (19, 4), (18, 5), (17, 6),
    (16, 4)]))))

/-- The reference value of `PSCALES[d][i]` (R223), for i in 0..255. -/
def pscales (d : BitVec 3) (i : Nat) : Nat :=
  match d.toNat with
  | 0 => runGet pscales0 i
  | 1 => runGet pscales1 i
  | 2 => runGet pscales2 i
  | 3 => runGet pscales3 i
  | 4 => runGet pscales4 i
  | 5 => runGet pscales5 i
  | 6 => runGet pscales6 i
  | _ => runGet pscales7 i

/-- The reference value of `ASCALES[d][i]` (R224), for i in 0..255. -/
def ascales (d : BitVec 3) (i : Nat) : Nat :=
  match d.toNat with
  | 0 => runGet ascales0 i
  | 1 => runGet ascales1 i
  | 2 => runGet ascales2 i
  | 3 => runGet ascales3 i
  | 4 => runGet ascales4 i
  | 5 => runGet ascales5 i
  | 6 => runGet ascales6 i
  | _ => runGet ascales7 i

end Sys2Proof.Machine
end

