-- ==== Sys2Proof/Machine/TablesPan.lean ====
section
/-! DEFINITION. The reference values of the pan tables LPAN_TABLE and RPAN_TABLE (spec/44_mixer.md R241).

R241's gains g_TL, g_PAN and g_SDL are single-precision values; each is held exactly, as its value times 2^40. The
product `4096 * (4 * g * g_TL * g_SDL)` of R241 is then an integer times 2^-120, truncated. Truncating R241's
double-precision product gives the same integer for every one of the 2^16 combinations (computed when this file was
written); the values of R242 are tested in `Sys2Proof/Tests/Slice0.lean`. Assumption log 8. -/

namespace Sys2Proof.Machine

/-- `g_TL * 2^40` for TL = 0..255 (R241). -/
def gainTl : List (List Nat) :=
  [[1099511627776, 1050025459712, 1002766532608, 957634576384, 925123739648, 883486294016, 843722915840, 805749063680],
   [778394599424, 743361085440, 709904367616, 677953404928, 654937423872, 625460379648, 597310046208, 570426720256],
   [551061159936, 526259355648, 502573760512, 479954239488, 463660220416, 442792050688, 422863142912, 403831160832],
   [390121455616, 372563116032, 355794976768, 339781582848, 328246296576, 313472778240, 299364155392, 285890576384],
   [276184825856, 263754481664, 251883552768, 240546938880, 232380579840, 221921738752, 211933593600, 202395025408],
   [195523887104, 186723876864, 178319900672, 170294165504, 164512858112, 157108551680, 150037512192, 143284682752],
   [138420305920, 132190380032, 126240833536, 120559042560, 116466180096, 111224340480, 106218430464, 101437792256],
   [97994080256, 93583622144, 89371664384, 85349269504, 82451742720, 78740807680, 75196891136, 71812456448],
   [69374492672, 66252128256, 63270297600, 60422651904, 58371362816, 55744221184, 53235318784, 50839326720],
   [49113378816, 46902915072, 44791939072, 42775961600, 41323761664, 39463886848, 37687721984, 35991486464],
   [34769608704, 33204721664, 31710265344, 30283061248, 29254981632, 27938291712, 26680862720, 25480022016],
   [24615000064, 23507138560, 22449147904, 21438767104, 20710940672, 19778791424, 18888603648, 18038474752],
   [17426085888, 16641778688, 15892780032, 15177484288, 14662222848, 14002312192, 13372107776, 12770260992],
   [12336722944, 11781477376, 11251226624, 10744836096, 10380058624, 9912878080, 9466727424, 9040652288],
   [8733730816, 8340647424, 7965258240, 7606761472, 7348518912, 7017780224, 6701929472, 6400291840],
   [6183008256, 5904726016, 5638970880, 5385174528, 5202353152, 4968207872, 4744602624, 4531059712],
   [4377234432, 4180225792, 3992085760, 3812411648, 3682983936, 3517221632, 3358921472, 3207744768],
   [3098844928, 2959373312, 2826180352, 2698980864, 2607353088, 2490002432, 2377934336, 2270909184],
   [2193814016, 2095075840, 2000782464, 1910732032, 1845864576, 1762786688, 1683448576, 1607680640],
   [1553101440, 1483200128, 1416445440, 1352694656, 1306771968, 1247957376, 1191790336, 1138150784],
   [1099511680, 1050025280, 1002766592, 957634496, 925123712, 883486144, 843722944, 805749056],
   [778394624, 743360960, 709904384, 677953600, 654937472, 625460288, 597309824, 570426880],
   [551061184, 526259264, 502573600, 479954400, 463660224, 442792000, 422862976, 403831296],
   [390121440, 372563040, 355794848, 339781696, 328246304, 313472704, 299364064, 285890656],
   [276184832, 263754416, 251883472, 240547024, 232380576, 221921696, 211933536, 202395088],
   [195523888, 186723824, 178319840, 170294256, 164512848, 157108528, 150037456, 143284752],
   [138420320, 132190352, 126240784, 120559096, 116466176, 111224320, 106218384, 101437840],
   [97994080, 93583600, 89371632, 85349304, 82451744, 78740784, 75196856, 71812488],
   [69374496, 66252116, 63270268, 60422680, 58371360, 55744208, 53235296, 50839348],
   [49113380, 46902904, 44791920, 42775980, 41323760, 39463876, 37687704, 35991504],
   [34769612, 33204714, 31710250, 30283076, 29254982, 27938286, 26680850, 25480032],
   [24615000, 23507138, 22449138, 21438776, 20710940, 19778792, 18888596, 18038482]]

/-- `g_PAN * 2^40` by PAN bits 3:0 (R241); 0xF mutes. -/
def gainPan : List (List Nat) :=
  [[1099511627776, 778394599424, 551061159936, 390121455616, 276184825856, 195523887104, 138420305920, 97994080256],
   [69374492672, 49113378816, 34769608704, 24615000064, 17426085888, 12336722944, 8733730816, 0]]

/-- `g_SDL * 2^40` for SDL = 0..15 (R241); 0 is off. -/
def gainSdl : List (List Nat) :=
  [[0, 8733730816, 12336722944, 17426085888, 24615000064, 34769608704, 49113378816, 69374492672],
   [97994080256, 138420305920, 195523887104, 276184825856, 390121455616, 551061159936, 778394599424, 1099511627776]]

/-- Entry `i` of one of the gain tables. -/
def gainEntry (t : List (List Nat)) (i : Nat) : Nat := (t.getD (i / 8) []).getD (i % 8) 0

/-- `trunc(4096 * (4 * g * g_TL * g_SDL))` with `g` scaled by 2^40 (R241). -/
def panProduct (g tl sdl : Nat) : Nat := (16384 * g * gainEntry gainTl tl * gainEntry gainSdl sdl) / 2 ^ 120

/-- The reference value of `LPAN_TABLE[TL | PAN << 8 | SDL << 13]` (R241): PAN below 0x10 attenuates the left channel. -/
def lpan (tl pan sdl : Nat) : Nat :=
  panProduct (if pan < 0x10 then gainEntry gainPan (pan % 16) else 2 ^ 40) tl sdl

/-- The reference value of `RPAN_TABLE[TL | PAN << 8 | SDL << 13]` (R241): PAN of 0x10 or above attenuates the right channel. -/
def rpan (tl pan sdl : Nat) : Nat :=
  panProduct (if pan < 0x10 then 2 ^ 40 else gainEntry gainPan (pan % 16)) tl sdl

end Sys2Proof.Machine
end

