-- ==== Sys2Proof/Machine/Tables.lean ====
section
/-! DEFINITION. The lookup tables of an instance (spec/00_scope.md R9, R10; decision D31): each entry is the one the
parameters give, or the reference value, which the rule that names the table states. Every rule that reads a table reads
it through one of these. Assumption log 8. -/

namespace Sys2Proof

/-- Entry `i` of a table whose reference value there is `ref`; beyond the end of given entries, where no rule reads, it is
`ref` too (assumption log 22). -/
def LookupTable.get {α : Type} {n : Nat} (t : LookupTable α n) (i : Nat) (ref : α) : α :=
  match t with
  | .reference => ref
  | .given entries => if h : i < n then entries[i] else ref

/-- `AR_TABLE[i]` (R151). -/
def Params.arEntry (p : Params) (i : Nat) : Nat := p.tables.ar.get i (Machine.arEntry p.egFrac i)

/-- `DR_TABLE[i]` (R151). -/
def Params.drEntry (p : Params) (i : Nat) : Nat := p.tables.dr.get i (Machine.drEntry p.egFrac i)

/-- `EG_TABLE[i]` (R152). -/
def Params.egEntry (p : Params) (i : Nat) : Nat := p.tables.eg.get i (Machine.egEntry i)

/-- The pan tables' index `TL | PAN << 8 | SDL << 13` (R241). -/
def panIndex (tl pan sdl : Nat) : Nat := tl + 0x100 * pan + 0x2000 * sdl

/-- `LPAN_TABLE[TL | PAN << 8 | SDL << 13]` (R241). -/
def Params.lpan (p : Params) (tl pan sdl : Nat) : Nat :=
  p.tables.lpan.get (panIndex tl pan sdl) (Machine.lpan tl pan sdl)

/-- `RPAN_TABLE[TL | PAN << 8 | SDL << 13]` (R241). -/
def Params.rpan (p : Params) (tl pan sdl : Nat) : Nat :=
  p.tables.rpan.get (panIndex tl pan sdl) (Machine.rpan tl pan sdl)

/-- `LFO_STEP[f]` (R221). -/
def Params.lfoStep (p : Params) (f : Nat) : U32 := p.tables.lfoStep.get f (BitVec.ofNat 32 (Machine.lfoStep f))

/-- The amplitude waveforms `A_W[i]` in 0 .. 255 (R222). -/
def Params.ampSaw (p : Params) (i : Nat) : Nat := (p.tables.ampSaw.get i (BitVec.ofInt 8 (Machine.ampSaw i))).toNat
@[inherit_doc Params.ampSaw]
def Params.ampSquare (p : Params) (i : Nat) : Nat :=
  (p.tables.ampSquare.get i (BitVec.ofInt 8 (Machine.ampSquare i))).toNat
@[inherit_doc Params.ampSaw]
def Params.ampTri (p : Params) (i : Nat) : Nat := (p.tables.ampTri.get i (BitVec.ofInt 8 (Machine.ampTri i))).toNat

/-- The pitch waveforms `P_W[i]` in -128 .. 127 (R222). -/
def Params.pitchSaw (p : Params) (i : Nat) : Int :=
  (p.tables.pitchSaw.get i (BitVec.ofInt 8 (Machine.pitchSaw i))).toInt
@[inherit_doc Params.pitchSaw]
def Params.pitchSquare (p : Params) (i : Nat) : Int :=
  (p.tables.pitchSquare.get i (BitVec.ofInt 8 (Machine.pitchSquare i))).toInt
@[inherit_doc Params.pitchSaw]
def Params.pitchTri (p : Params) (i : Nat) : Int :=
  (p.tables.pitchTri.get i (BitVec.ofInt 8 (Machine.pitchTri i))).toInt

/-- `PSCALES[d][i]` (R223). -/
def Params.pscales (p : Params) (d : BitVec 3) (i : Nat) : Nat :=
  p.tables.pscales.get (0x100 * d.toNat + i) (Machine.pscales d i)

/-- `ASCALES[d][i]` (R224). -/
def Params.ascales (p : Params) (d : BitVec 3) (i : Nat) : Nat :=
  p.tables.ascales.get (0x100 * d.toNat + i) (Machine.ascales d i)

/-- The reference value of `QUANT_MUL[d]` (R192). -/
def Machine.quantMul (d : Nat) : Int := if d < 8 then 2 * (d % 8) + 1 else -(2 * (d % 8) + 1)

/-- The reference value of `QUANT_SCALE[d]` for d in 0..7 (R192). -/
def Machine.quantScale (d : Nat) : Nat := [230, 230, 230, 230, 307, 409, 512, 614].getD d 0

/-- `QUANT_MUL[d]` (R192). -/
def Params.quantMul (p : Params) (d : Nat) : Int := p.tables.quantMul.get d (Machine.quantMul d)

/-- `QUANT_SCALE[d]` for d in 0..7 (R192). -/
def Params.quantScale (p : Params) (d : Nat) : Nat := p.tables.quantScale.get d (Machine.quantScale d)

end Sys2Proof
end

