-- ==== Sys2Proof/Machine/Envelope.lean ====
section
/-! DEFINITION. The envelope generator (spec/41_envelope.md R150 to R163): rates latched at key-on, the update of one tick
in each of the four states, and the gain it applies. -/

namespace Sys2Proof.Machine

/-- `MAXV = 0x3FF << F` (41_envelope.md, introduction). -/
def maxVolume (f : EgFrac) : Int := 0x3FF * 2 ^ f.bits

/-- `EG_START << F`, the volume at key-on (R9, R130, R153). -/
def startVolume (f : EgFrac) : Int := 0x17F * 2 ^ f.bits

/-- The integer part of a volume, the 10-bit level `volume >> F` (R34). -/
def levelOf (f : EgFrac) (volume : Int) : Int := sar volume f.bits

/-- The effective rate index `clamp(base + 2*R, 0, 63)` (R153). -/
def rateIndex (base : Int) (r : Nat) : Nat := (clamp (base + 2 * r) 0 63).toNat

/-- The key-rate base (R153): 0 with KRS = 0xF, else `oct + 2*KRS + FNS[9]`. -/
def State.keyRateBase (s : State) (i : Fin 64) : Int :=
  if s.krs i ≠ 0xF then s.oct i + 2 * s.krs i + (s.fns i / 512 : Nat) else 0

/-- The threshold `0x1F - DL` that key-on and a write of slot word 0x14 latch (R133, R153). -/
def State.dlThreshold (s : State) (i : Fin 64) : BitVec 5 := BitVec.ofNat 5 (0x1F - s.dl i)

/-- `ComputeEG(s)` (R153): every latched EG value from the register words, and the starting volume. The stage is left to
the caller. -/
def State.computeEg (s : State) (i : Fin 64) (e : Eg) : Eg :=
  let p := s.params
  let base := s.keyRateBase i
  { state := e.state
    volume := startVolume p.egFrac
    ar := p.arEntry (rateIndex base (s.ar i))
    d1r := p.drEntry (rateIndex base (s.d1r i))
    d2r := p.drEntry (rateIndex base (s.d2r i))
    rr := p.drEntry (rateIndex base (s.rr i))
    dl := s.dlThreshold i
    hold := s.eghold i }

/-- `SkipD1(s)` (R162), by the instance's test. -/
def skipDecay1 (p : Params) (e : Eg) : Bool :=
  match p.skipD1 with
  | .doc => decide (sar (max 0 (maxVolume p.egFrac - e.d1r)) (p.egFrac.bits + 5) ≤ e.dl.toNat)
  | .reference => decide (1024 * 2 ^ p.egFrac.bits ≤ e.d1r) && e.d2r != 0

/-- What `EgUpdate(s)` gives: the EG, the level 0 .. 4092 it returns, and whether it stops the slot. -/
structure EgUse where
  eg : Eg
  level : Int
  stop : Bool
deriving DecidableEq, Repr

/-- The level a state returns, `(volume >> F) << 2`. -/
def outLevel (p : Params) (volume : Int) : Int := levelOf p.egFrac volume * 4

/-- `EgUpdate(s)` in ATTACK (R155). -/
def egAttack (p : Params) (lpslnk : Bool) (e : Eg) : EgUse :=
  let v := e.volume + e.ar
  let full := decide (maxVolume p.egFrac ≤ v)
  let volume := if full then maxVolume p.egFrac else v
  let state :=
    if full && !lpslnk && e.d1r != 0 then (if skipDecay1 p e then .decay2 else .decay1) else .attack
  { eg := { e with state := state, volume := volume }
    level := if e.hold then 0x3FF * 4 else outLevel p volume
    stop := false }

/-- `EgUpdate(s)` in DECAY1 (R157). -/
def egDecay1 (p : Params) (e : Eg) : EgUse :=
  let volume := max 0 (e.volume - e.d1r)
  let state := if sar volume (p.egFrac.bits + 5) ≤ e.dl.toNat then .decay2 else .decay1
  { eg := { e with state := state, volume := volume }, level := outLevel p volume, stop := false }

/-- `EgUpdate(s)` in DECAY2 (R158): the live D2R field freezes the volume, the latched step lowers it. -/
def egDecay2 (p : Params) (liveD2r : Nat) (e : Eg) : EgUse :=
  let volume := if liveD2r = 0 then e.volume else max 0 (e.volume - e.d2r)
  { eg := { e with volume := volume }, level := outLevel p volume, stop := false }

/-- `EgUpdate(s)` in RELEASE (R159): at 0 the slot stops. -/
def egRelease (p : Params) (e : Eg) : EgUse :=
  let v := e.volume - e.rr
  let volume := if v ≤ 0 then 0 else v
  { eg := { e with volume := volume }, level := outLevel p volume, stop := decide (v ≤ 0) }

/-- `EgUpdate(s)` (R155, R157 to R159), with the live fields LPSLNK and D2R. -/
def egUpdate (p : Params) (lpslnk : Bool) (liveD2r : Nat) (e : Eg) : EgUse :=
  match e.state with
  | .attack => egAttack p lpslnk e
  | .decay1 => egDecay1 p e
  | .decay2 => egDecay2 p liveD2r e
  | .release => egRelease p e

/-- The EG's scaling of a sample (R161): linear in the level from ATTACK, by EG_TABLE from the other states; `pre` is the
state before the update. -/
def egGain (p : Params) (pre : EgState) (level x : Int) : Int :=
  match pre with
  | .attack => sar (x * level) 12
  | .decay1 => sar (x * p.egEntry (sar level 2).toNat) 12
  | .decay2 => sar (x * p.egEntry (sar level 2).toNat) 12
  | .release => sar (x * p.egEntry (sar level 2).toNat) 12

end Sys2Proof.Machine
end

