-- ==== Sys2Proof/Machine/Lfo.lean ====
section
/-! DEFINITION. The low-frequency oscillators (spec/43_lfo.md R220 to R229): latching at key-on and on a write of slot
word 0x1C, and one use of the pitch LFO and of the amplitude LFO. -/

namespace Sys2Proof.Machine

/-- The waveform a 2-bit select field names (R220). -/
def waveOfField (n : Nat) : Wave :=
  match n with
  | 0 => .saw
  | 1 => .square
  | 2 => .tri
  | _ => .noise

/-- `ComputeLFO(s)` (R225): each LFO whose depth field is not 0 latches its step, waveform and depth; the phases are
kept (R226), and LFORE has no effect. -/
def State.computeLfo (s : State) (i : Fin 64) (x : Slot) : Slot :=
  let plfo : Lfo :=
    if s.plfos i ≠ 0 then
      { x.plfo with
        phaseStep := s.params.lfoStep (s.lfof i)
        wave := waveOfField (s.plfows i)
        depth := BitVec.ofNat 3 (s.plfos i) }
    else x.plfo
  let alfo : Lfo :=
    if s.alfos i ≠ 0 then
      { x.alfo with
        phaseStep := s.params.lfoStep (s.lfof i)
        wave := waveOfField (s.alfows i)
        depth := BitVec.ofNat 3 (s.alfos i) }
    else x.alfo
  { x with plfo := plfo, alfo := alfo }

/-- An LFO after one use: the phase advances by its step modulo 2^16, before the lookup (R227, R228). -/
def Lfo.advance (l : Lfo) : Lfo := { l with phase := l.phase + l.phaseStep.setWidth 16 }

/-- The waveform index of an LFO's phase, its bits 15:8 (R220). -/
def Lfo.index (l : Lfo) : Fin 256 := Fin.ofNat 256 (l.phase.toNat / 256)

/-- `P_wave[n]` (R222); no value for a waveform never computed. -/
def State.pitchWave (s : State) (w : Wave) (n : Fin 256) : Option Int :=
  match w with
  | .saw => some (s.params.pitchSaw n)
  | .square => some (s.params.pitchSquare n)
  | .tri => some (s.params.pitchTri n)
  | .noise => some (128 - s.noise[n].toNat)
  | .none => Option.none

/-- `A_wave[n]` (R222); no value for a waveform never computed. -/
def State.ampWave (s : State) (w : Wave) (n : Fin 256) : Option Nat :=
  match w with
  | .saw => some (s.params.ampSaw n)
  | .square => some (s.params.ampSquare n)
  | .tri => some (s.params.ampTri n)
  | .noise => some s.noise[n].toNat
  | .none => Option.none

/-- The PSCALES entry that `PlfoStep(s)` reads for an advanced LFO (R227), and the draw counter after it: past the end of the
row, where `P_wave[phase >> 8] + 128` is 256, what is read is a `Draw` (R229, decision D13; assumption log 24), and so it is
for a waveform never computed (assumption log 12). -/
def State.pitchScale (s : State) (l : Lfo) (draws : Nat) : Nat × Nat :=
  match s.pitchWave l.wave l.index with
  | some v =>
    if v < 128 then (s.params.pscales l.depth (v + 128).toNat, draws)
    else ((Config.drawScale draws).toNat, draws + 1)
  | Option.none => ((Config.drawScale draws).toNat, draws + 1)

/-- The ASCALES entry that an advanced amplitude LFO reads (R228), and the draw counter after it; for a waveform never
computed it is a `Draw` (assumption log 12). -/
def State.ampScale (s : State) (l : Lfo) (draws : Nat) : Nat × Nat :=
  match s.ampWave l.wave l.index with
  | some n => (s.params.ascales l.depth n, draws)
  | Option.none => ((Config.drawScale draws).toNat, draws + 1)

/-- The gain `PlfoStep(s)` gives for an advanced LFO (R227), in units of 2^-12: what is read, drawn or not, shifted left by
4; and the draw counter after it. -/
def State.pitchGain (s : State) (l : Lfo) (draws : Nat) : Nat × Nat :=
  let r := s.pitchScale l draws
  (r.1 * 16, r.2)

/-- The gain of an advanced amplitude LFO (R228), in units of 2^-12, and the draw counter after it. -/
def State.ampGain (s : State) (l : Lfo) (draws : Nat) : Nat × Nat :=
  let r := s.ampScale l draws
  (r.1 * 16, r.2)

/-- What one use of the pitch LFO gives: the effective step, the LFO and the draw counter. -/
structure PitchUse where
  stepEff : Nat
  plfo : Lfo
  draws : Nat
deriving DecidableEq, Repr

/-- The effective step of a slot (R189): `(step * PlfoStep(s)) >> 12`, exact, when PLFOS is not 0; else the latched step,
and the phase stays. -/
def State.pitchUse (s : State) (i : Fin 64) (x : Slot) (draws : Nat) : PitchUse :=
  if s.plfos i ≠ 0 then
    let l := x.plfo.advance
    let g := s.pitchGain l draws
    { stepEff := x.step.toNat * g.1 / 4096, plfo := l, draws := g.2 }
  else { stepEff := x.step.toNat, plfo := x.plfo, draws := draws }

/-- What one use of the amplitude LFO gives: the scaled sample, the LFO and the draw counter. -/
structure AmpUse where
  x : Int
  alfo : Lfo
  draws : Nat
deriving DecidableEq, Repr

/-- The amplitude LFO applied to a sample (R228): `(x * g) >> 12` when ALFOS is not 0; else the sample and the phase stay. -/
def State.ampUse (s : State) (i : Fin 64) (alfo : Lfo) (x : Int) (draws : Nat) : AmpUse :=
  if s.alfos i ≠ 0 then
    let l := alfo.advance
    let g := s.ampGain l draws
    { x := sar (x * g.1) 12, alfo := l, draws := g.2 }
  else { x := x, alfo := alfo, draws := draws }

end Sys2Proof.Machine
end

