-- ==== Sys2Proof/Machine/Waveform.lean ====
section
/-! DEFINITION. Pitch, sample fetch, ADPCM decoder, looping, and the slot update of one tick (spec/42_waveform.md R180 to R199). -/

namespace Sys2Proof.Machine

/-- `PitchStep(s)` (R180). -/
def State.pitchStep (s : State) (i : Fin 64) : U32 :=
  let e := s.oct i + 2
  let fn := s.fns i + 0x400
  BitVec.ofNat 32 (if 0 ≤ e then fn * 2 ^ e.toNat else fn / 2 ^ (-e).toNat)

/-! ### ADPCM decoder -/

/-- The predictor and the quantisation step of a decoder. -/
structure Predictor where
  sample : Int
  quant : Nat
deriving DecidableEq, Repr

/-- `InitADPCM` (R131): predictor 0, step 0x7F. -/
def Predictor.init : Predictor := { sample := 0, quant := 0x7F }

/-- `AdpcmStep(p, q, d)` (R191) with the tables of `params`: the eighth is truncated toward zero. -/
def adpcmStep (params : Params) (p : Predictor) (d : Nat) : Predictor :=
  { sample := clip16 (p.sample + (p.quant * params.quantMul d).tdiv 8)
    quant := min (max (p.quant * params.quantScale (d % 8) / 256) 0x7F) 0x6000 }

/-- Nibble `n` of the stream, from the byte at `base` (R190): bits 3:0 for an even index, bits 7:4 for an odd one. The
second component is the draw counter after the read. -/
def State.nibble (s : State) (base n draws : Nat) : Nat × Nat :=
  let r := s.memByte base draws
  (if n % 2 = 0 then r.1.toNat % 16 else r.1.toNat / 16, r.2)

/-- The walk of R131: decode `fuel` nibbles from index `n`, whose byte is at `base`. -/
def State.keyOnWalk (s : State) : (fuel n base : Nat) → Predictor → (draws : Nat) → Predictor × Nat
  | 0, _, _, p, draws => (p, draws)
  | fuel + 1, n, base, p, draws =>
    let r := s.nibble base n draws
    s.keyOnWalk fuel (n + 1) (if (n + 1) % 2 = 0 then base + 1 else base) (adpcmStep s.params p r.1) r.2

/-- Where the walk of R186 has come to: the decoder, the current sample, and the draw counter. -/
structure AdpcmWalk where
  ad : Adpcm
  cur : Int
  draws : Nat
deriving DecidableEq, Repr

/-- One nibble of the walk of R186; `i1` is the index of the current sample. -/
def State.adpcmWalkStep (s : State) (i1 : Nat) (w : AdpcmWalk) : AdpcmWalk :=
  let r := s.nibble w.ad.base.toNat w.ad.step.toNat w.draws
  let p := adpcmStep s.params { sample := w.ad.sample, quant := w.ad.quant } r.1
  let step := w.ad.step + 1
  { ad :=
      { w.ad with
        sample := p.sample
        quant := p.quant
        step := step
        base := if step.toNat % 2 = 0 then w.ad.base + 1 else w.ad.base }
    cur := if step.toNat = i1 then p.sample else w.cur
    draws := r.2 }

/-- The walk of R186: `fuel` nibbles, which the caller sets to `i2 - ad.step`, the count of its `while`. -/
def State.adpcmWalk (s : State) (i1 : Nat) : (fuel : Nat) → AdpcmWalk → AdpcmWalk
  | 0, w => w
  | fuel + 1, w => s.adpcmWalk i1 fuel (s.adpcmWalkStep i1 w)

/-! ### Sample fetch -/

/-- The current and the next sample of a slot, its decoder and the draw counter after the fetch. -/
structure Fetch where
  cur : Int
  nxt : Int
  ad : Adpcm
  draws : Nat
deriving DecidableEq, Repr

/-- The byte offset of the 16-bit sample at address `c` (R183): `(c >> 11) & 0x7FFFFE`. -/
def pcm16Offset (c : U32) : Nat := c.toNat / 2048 % 0x800000 / 2 * 2

/-- PCM16 fetch (R184). -/
def State.fetchPcm16 (s : State) (i : Fin 64) (x : Slot) (draws : Nat) : Fetch :=
  let a := s.memWord (s.sa i + pcm16Offset x.curAddr) draws
  let b := s.memWord (s.sa i + pcm16Offset x.nxtAddr) a.2
  { cur := a.1.toInt, nxt := b.1.toInt, ad := x.ad, draws := b.2 }

/-- PCM8 fetch (R185). -/
def State.fetchPcm8 (s : State) (i : Fin 64) (x : Slot) (draws : Nat) : Fetch :=
  let a := s.memByte (s.sa i + x.curAddr.toNat / 4096) draws
  let b := s.memByte (s.sa i + x.nxtAddr.toNat / 4096) a.2
  { cur := a.1.toInt * 256, nxt := b.1.toInt * 256, ad := x.ad, draws := b.2 }

/-- ADPCM fetch (R186); a decoder never initialised since reset gives 0 and stays as it is (R187). -/
def State.fetchAdpcm (s : State) (x : Slot) (draws : Nat) : Fetch :=
  if x.ad.quant = 0 then { cur := 0, nxt := 0, ad := x.ad, draws := draws }
  else
    let i1 := x.curAddr.toNat / 4096
    let i2 := x.nxtAddr.toNat / 4096
    let w := s.adpcmWalk i1 (i2 - x.ad.step.toNat) { ad := x.ad, cur := x.ad.sample, draws := draws }
    { cur := w.cur, nxt := w.ad.sample, ad := w.ad, draws := w.draws }

/-- The fetch of a slot by its format PCMS (R183): 0 is 16-bit PCM, 1 is 8-bit PCM, 2 and 3 are ADPCM. -/
def State.fetch (s : State) (i : Fin 64) (x : Slot) (draws : Nat) : Fetch :=
  match s.pcms i with
  | 0 => s.fetchPcm16 i x draws
  | 1 => s.fetchPcm8 i x draws
  | _ => s.fetchAdpcm x draws

/-- Interpolation (R188), with `f` the 12 fractional bits of the address before the advance. -/
def interpolate (curAddr : U32) (cur nxt : Int) : Int :=
  let f : Int := (curAddr.toNat % 4096 : Nat)
  sar (cur * (4096 - f) + nxt * f) 12

/-! ### Address advance and looping -/

/-- The integer index of an address, `a >> 12` (R194). -/
def indexOf (a : U32) : Nat := a.toNat / 4096

/-- Address advance (R194), with the loop link of R156: an ATTACK whose index reaches LSA goes to DECAY1 when LPSLNK is set. -/
def State.advance (s : State) (i : Fin 64) (x : Slot) (stepEff : Nat) : Slot :=
  let cur := x.curAddr + BitVec.ofNat 32 stepEff
  let state :=
    if s.lsa i ≤ indexOf cur ∧ s.lpslnk i = true ∧ x.eg.state = .attack then EgState.decay1 else x.eg.state
  { x with prvAddr := x.curAddr, curAddr := cur, nxtAddr := cur + 0x1000, eg := { x.eg with state := state } }

/-- The slot after a loop wrap (R196, R197): one loop length back, modulo 2^32; the ADPCM cursor goes to nibble LSA, with
the cached predictor for PCMS = 2 and the running one for PCMS = 3. -/
def State.wrap (s : State) (i : Fin 64) (x : Slot) : Slot :=
  let lsa := BitVec.ofNat 32 (s.lsa i * 4096)
  let lea := BitVec.ofNat 32 (s.lea i * 4096)
  let cursor : Adpcm := { x.ad with base := BitVec.ofNat 32 (s.sa i + s.lsa i / 2), step := BitVec.ofNat 32 (s.lsa i) }
  let ad : Adpcm :=
    match s.pcms i with
    | 0 => x.ad
    | 1 => x.ad
    | 2 => { cursor with sample := x.ad.lpSample, quant := x.ad.lpQuant }
    | _ => cursor
  { x with nxtAddr := lsa + (x.nxtAddr - lea), curAddr := lsa + (x.curAddr - lea), ad := ad }

/-- Loop control (R195, R196) on the index `a2` of the next sample: without loop, the slot stops at LEA (and LSA); with
loop, it wraps at LEA. The second component says that the slot stops. -/
def State.loopControl (s : State) (i : Fin 64) (x : Slot) : Slot × Bool :=
  let a2 := indexOf x.nxtAddr
  if s.lpctl i then (if s.lea i ≤ a2 then s.wrap i x else x, false)
  else (x, decide (s.lsa i ≤ a2) && decide (s.lea i ≤ a2))

/-! ### The slot update -/

/-- What `SlotUpdate(s)` makes of an active slot with SSCTL = 0: its new runtime state, its sample, whether it stops, and
the draw counter. -/
structure SlotRun where
  slot : Slot
  out : Int
  stop : Bool
  draws : Nat
deriving DecidableEq, Repr

/-- The seven steps of R182 in their order. Registers are read as they stand before the update; the one register bit the
update may write is KYONB (R160), which no step reads (assumption log 18). -/
def State.slotRun (s : State) (i : Fin 64) (x : Slot) : SlotRun :=
  let pitch := s.pitchUse i x s.draws                                                      -- (1)
  let fetched := s.fetch i x pitch.draws                                                   -- (2)
  let sample := interpolate x.curAddr fetched.cur fetched.nxt                              -- (3)
  let moved := s.advance i { x with plfo := pitch.plfo, ad := fetched.ad } pitch.stepEff   -- (4)
  let looped := s.loopControl i moved                                                      -- (5)
  let amp := s.ampUse i looped.1.alfo sample fetched.draws                                 -- (6)
  let eg := egUpdate s.params (s.lpslnk i) (s.d2r i) looped.1.eg                           -- (7)
  { slot := { looped.1 with alfo := amp.alfo, eg := eg.eg }
    out := egGain s.params looped.1.eg.state eg.level amp.x
    stop := looped.2 || eg.stop
    draws := amp.draws }

/-- The state after a slot's run; a stop clears `active` and KYONB (R160, R199). -/
def State.commitRun (s : State) (i : Fin 64) (r : SlotRun) : State :=
  let t := (s.setSlot i r.slot).setDraws r.draws
  if r.stop then t.forcedStop i else t

/-- `SlotUpdate(s)` (R181, R182): the state after it and the slot's sample; a frozen slot gives 0 and changes nothing. -/
def State.slotUpdate (s : State) (i : Fin 64) : State × Int :=
  if s.ssctl i then (s, 0)
  else
    let r := s.slotRun i s.slots[i]
    (s.commitRun i r, r.out)

end Sys2Proof.Machine
end

