-- ==== Sys2Proof/Machine/KeyScan.lean ====
section
/-! DEFINITION. Key-on, key-off and the key scan (spec/40_register_access.md R125, R130 to R132). -/

namespace Sys2Proof.Machine

/-- Byte address `SA` is already a 23-bit value, so `SA & WAVE_MASK` is `SA` (R131, R88). -/
def State.streamBase (s : State) (i : Fin 64) : Nat := waveMask (s.sa i)

/-- `AdpcmKeyOn(s)` (R131): the decoder starts at nibble 0, the loop cache is the predictor after LSA nibbles, and
LSA > LEA writes the loop-disable sentinel 0xFFFF to LEA. -/
def State.adpcmKeyOn (s : State) (i : Fin 64) : State :=
  let w := s.keyOnWalk (s.lsa i) 0 (s.streamBase i) Predictor.init s.draws
  let ad : Adpcm :=
    { sample := Predictor.init.sample
      quant := Predictor.init.quant
      step := 0
      base := BitVec.ofNat 32 (s.streamBase i)
      lpSample := w.1.sample
      lpQuant := w.1.quant }
  let t := (s.setSlot i { s.slots[i] with ad := ad }).setDraws w.2
  if s.lea i < s.lsa i then t.setReg (slotReg i 0x0C) 0xFFFF else t

/-- The slot `KeyOn(s)` starts (R130), before the ADPCM decoder. -/
def State.keyOnSlot (s : State) (i : Fin 64) (x : Slot) : Slot :=
  s.computeLfo i
    { x with
      active := true
      curAddr := 0
      nxtAddr := 0x1000
      prvAddr := 0xFFFFFFFF
      step := s.pitchStep i
      eg := { s.computeEg i x.eg with state := .attack, volume := startVolume s.params.egFrac } }

/-- `KeyOn(s)` (R130). -/
def State.keyOn (s : State) (i : Fin 64) : State :=
  let t := s.setSlot i (s.keyOnSlot i s.slots[i])
  if 2 ≤ s.pcms i then t.adpcmKeyOn i else t

/-- `KeyOff(s)` (R132): the slot goes to RELEASE and its KYONB is cleared; `active` stays. -/
def State.keyOff (s : State) (i : Fin 64) : State :=
  let x := s.slots[i]
  (s.setSlot i { x with eg := { x.eg with state := .release } }).setReg (slotReg i 0x00) (s.sr i 0x00 &&& ~~~ 0x4000)

/-- A slot's turn in the key scan (R125): a slot in RELEASE with KYONB = 1 is started, a slot with KYONB = 0 is keyed off. -/
def State.scanSlot (s : State) (i : Fin 64) : State :=
  if s.kyonb i then
    if s.slots[i].eg.state = .release then (s.setSlot i { s.slots[i] with lpend := false }).keyOn i else s
  else s.keyOff i

/-- The key scan over slots 0 to 63 (R125). -/
def State.keyScan (s : State) : State := (List.finRange 64).foldl State.scanSlot s

/-- A write of slot word 0x00 after its store (R125): KYONEX runs the scan and then reads 0. -/
def State.keyExecute (s : State) (i : Fin 64) : State :=
  if s.kyonex i then
    let t := s.keyScan
    t.setReg (slotReg i 0x00) (t.sr i 0x00 &&& ~~~ 0x8000)
  else s

end Sys2Proof.Machine
end

