-- ==== Sys2Proof/Machine/Timers.lean ====
section
/-! DEFINITION. The timers (spec/45_timers_irq.md R260 to R262). -/

namespace Sys2Proof.Machine

/-- The counter's value byte written back to the timer's word, bits 7:0 (R261). -/
def withValueByte (w : Word) (c : BitVec 16) : Word := (w &&& 0xFF00) ||| (c >>> 8)

/-- The counter after one step at prescale `p`: it saturates at 0xFF00 (R261). -/
def timerNext (c : BitVec 16) (p : Nat) : BitVec 16 :=
  if 0xFF00 ≤ c.toNat + 2 ^ (8 - p) then 0xFFFF else BitVec.ofNat 16 (c.toNat + 2 ^ (8 - p))

/-- One timer's turn in `TimersTick()` (R261): a saturated counter is left alone, and so is its word. -/
def State.timerTick (s : State) (k : Fin 3) : State :=
  let c := s.timCnt[k]
  if c.toNat ≤ 0xFF00 then
    let c' := timerNext c (bits (s.reg (timerReg k)) 10 8)
    let t := s.setTim k c'
    let u := if c' = 0xFFFF then t.setPending k else t
    u.setReg (timerReg k) (withValueByte (u.reg (timerReg k)) c')
  else s

/-- `TimersTick()` (R261). -/
def State.timersTick (s : State) : State := ((s.timerTick 0).timerTick 1).timerTick 2

/-- The reload of a timer write (R262): the counter takes the stored value byte, `Reg[a][7:0] << 8`. -/
def State.reloadTimer (s : State) (k : Fin 3) : State :=
  s.setTim k (BitVec.ofNat 16 (bits (s.reg (timerReg k)) 7 0 * 256))

end Sys2Proof.Machine
end

