-- ==== Sys2Proof/Machine/HostWrite.lean ====
section
/-! DEFINITION. The host writes (spec/40_register_access.md R120, R125 to R143, spec/45_timers_irq.md R262, R266, R268,
spec/30_encoding.md R85, R86, spec/60_exceptions.md R303). -/

namespace Sys2Proof.Machine

/-- The byte-enable masks of R66. -/
def byteEnableOk (m : Word) : Bool := m == 0xFFFF || m == 0x00FF || m == 0xFF00

/-- A host write with byte enables `m` and effect `effect`: any other mask is `Refuse(bad_byte_enable)`, decided before
any effect (R66, R303, R309); a write returns nothing (R80). -/
def State.hostWrite (s : State) (m : Word) (effect : State → State) : State :=
  if byteEnableOk m then (effect s).ret .none else s.refuse .badByteEnable

/-- A plain storage write of the word at `a` (R120). -/
def State.storeWrite (s : State) (a : Nat) (v m : Word) : State := s.hostWrite m fun s => s.store a v m

/-- W16 at an odd offset: `Refuse(odd_offset)`, before the byte enable is looked at (R303). -/
def execW16RefuseOdd (_a _v _m : Word) (s : State) : Host.Outcome State Fault Refusal := .next (s.refuse .oddOffset)

/-- W16 at 0x8000 or above: `Refuse(offset_out_of_window)`, before the byte enable is looked at (R303). -/
def execW16RefuseWindow (_a _v _m : Word) (s : State) : Host.Outcome State Fault Refusal :=
  .next (s.refuse .offsetOutOfWindow)

/-- W16_SLOT_CTRL (R125). -/
def execW16SlotCtrl (i : Fin 64) (v m : Word) (s : State) : Host.Outcome State Fault Refusal :=
  .next (s.hostWrite m fun s => (s.store (slotReg i 0x00) v m).keyExecute i)

/-- The release step that a write of slot word 0x14 latches: no key-rate scaling (R133). -/
def State.writtenRr (s : State) (i : Fin 64) : Nat := s.params.drEntry (rateIndex 0 (s.rr i))

/-- The recomputation of R133. -/
def State.latchRelease (s : State) (i : Fin 64) : State :=
  let x := s.slots[i]
  s.setSlot i { x with eg := { x.eg with rr := s.writtenRr i, dl := s.dlThreshold i } }

/-- W16_SLOT_EGREL (R133). -/
def execW16SlotEgrel (i : Fin 64) (v m : Word) (s : State) : Host.Outcome State Fault Refusal :=
  .next (s.hostWrite m fun s => (s.store (slotReg i 0x14) v m).latchRelease i)

/-- The recomputation of R134. -/
def State.latchPitch (s : State) (i : Fin 64) : State := s.setSlot i { s.slots[i] with step := s.pitchStep i }

/-- W16_SLOT_PITCH (R134). -/
def execW16SlotPitch (i : Fin 64) (v m : Word) (s : State) : Host.Outcome State Fault Refusal :=
  .next (s.hostWrite m fun s => (s.store (slotReg i 0x18) v m).latchPitch i)

/-- The recomputation of R135. -/
def State.latchLfo (s : State) (i : Fin 64) : State := s.setSlot i (s.computeLfo i s.slots[i])

/-- W16_SLOT_LFO (R135). -/
def execW16SlotLfo (i : Fin 64) (v m : Word) (s : State) : Host.Outcome State Fault Refusal :=
  .next (s.hostWrite m fun s => (s.store (slotReg i 0x1C) v m).latchLfo i)

/-- W16_SLOT_SA (R126). -/
def execW16SlotSa (i : Fin 64) (v m : Word) (s : State) : Host.Outcome State Fault Refusal :=
  .next (s.storeWrite (slotReg i 0x04) v m)

/-- W16_SLOT_LSA (R127). -/
def execW16SlotLsa (i : Fin 64) (v m : Word) (s : State) : Host.Outcome State Fault Refusal :=
  .next (s.storeWrite (slotReg i 0x08) v m)

/-- W16_SLOT_LEA (R128). -/
def execW16SlotLea (i : Fin 64) (v m : Word) (s : State) : Host.Outcome State Fault Refusal :=
  .next (s.storeWrite (slotReg i 0x0C) v m)

/-- W16_SLOT_EGRATE (R129). -/
def execW16SlotEgrate (i : Fin 64) (v m : Word) (s : State) : Host.Outcome State Fault Refusal :=
  .next (s.storeWrite (slotReg i 0x10) v m)

/-- W16_SLOT_DSPSEND (R136). -/
def execW16SlotDspsend (i : Fin 64) (v m : Word) (s : State) : Host.Outcome State Fault Refusal :=
  .next (s.storeWrite (slotReg i 0x20) v m)

/-- W16_SLOT_DIRECT (R137). -/
def execW16SlotDirect (i : Fin 64) (v m : Word) (s : State) : Host.Outcome State Fault Refusal :=
  .next (s.storeWrite (slotReg i 0x24) v m)

/-- W16_SLOT_TL (R138). -/
def execW16SlotTl (i : Fin 64) (v m : Word) (s : State) : Host.Outcome State Fault Refusal :=
  .next (s.storeWrite (slotReg i 0x28) v m)

/-- W16_SLOT_STORE (R139). -/
def execW16SlotStore (a v m : Word) (s : State) : Host.Outcome State Fault Refusal := .next (s.storeWrite a.toNat v m)

/-- W16_EFSPAN (R140). -/
def execW16Efspan (a v m : Word) (s : State) : Host.Outcome State Fault Refusal := .next (s.storeWrite a.toNat v m)

/-- W16_UNMAPPED: no state change (R85). -/
def execW16Unmapped (_a _v m : Word) (s : State) : Host.Outcome State Fault Refusal := .next (s.hostWrite m id)

/-- W16_REFUSED: `Refuse(out_of_scope_register(a))`, after the byte enable (R86, R303). -/
def execW16Refused (a _v m : Word) (s : State) : Host.Outcome State Fault Refusal :=
  .next (if byteEnableOk m then s.refuse (.outOfScopeRegister a) else s.refuse .badByteEnable)

/-- W16_MONITOR (R142). -/
def execW16Monitor (a v m : Word) (s : State) : Host.Outcome State Fault Refusal := .next (s.storeWrite a.toNat v m)

/-- W16_TIMER (R262). -/
def execW16Timer (k : Fin 3) (v m : Word) (s : State) : Host.Outcome State Fault Refusal :=
  .next (s.hostWrite m fun s => (s.store (timerReg k) v m).reloadTimer k)

/-- The effect of a stored SCIRE word (R266): the pending bits it names are cleared, and a timer bit among them deasserts
the line. -/
def State.acknowledge (s : State) : State :=
  let r := s.reg scire
  let t := s.setReg scipd (s.reg scipd &&& ~~~ r)
  if r &&& 0x1C0 ≠ 0 then t.deassertIrq else t

/-- W16_SCIRE (R266). -/
def execW16Scire (v m : Word) (s : State) : Host.Outcome State Fault Refusal :=
  .next (s.hostWrite m fun s => (s.store scire v m).acknowledge)

/-- W16_COMMON (R141). -/
def execW16Common (a v m : Word) (s : State) : Host.Outcome State Fault Refusal := .next (s.storeWrite a.toNat v m)

/-- W16_IRQL (R143). -/
def execW16Irql (v m : Word) (s : State) : Host.Outcome State Fault Refusal := .next (s.storeWrite irql v m)

/-- The effect of a stored IRQR word (R268): a non-zero word deasserts the line. -/
def State.requestClear (s : State) : State := if s.reg irqr ≠ 0 then s.deassertIrq else s

/-- W16_IRQR (R268). -/
def execW16Irqr (v m : Word) (s : State) : Host.Outcome State Fault Refusal :=
  .next (s.hostWrite m fun s => (s.store irqr v m).requestClear)

end Sys2Proof.Machine
end

