-- ==== Sys2Proof/Machine/Mixer.lean ====
section
/-! DEFINITION. Level, pan, DSP send, master mix and the tick (spec/44_mixer.md R240 to R250). -/

namespace Sys2Proof.Machine

/-- The DSP send of slot `i` with sample `x` (R243, R244): its channel and its value. -/
def State.sendOf (s : State) (i : Fin 64) (x : Int) : BitVec 4 × Int :=
  (s.isel i, sar (x * s.params.lpan (s.tl i) 0 (s.imxl i)) 10)

/-- The left and right parts of slot `i`'s direct mix with sample `x` (R243, R246). -/
def State.directL (s : State) (i : Fin 64) (x : Int) : Int := sar (x * s.params.lpan (s.tl i) (s.dipan i) (s.disdl i)) 12
@[inherit_doc State.directL]
def State.directR (s : State) (i : Fin 64) (x : Int) : Int := sar (x * s.params.rpan (s.tl i) (s.dipan i) (s.disdl i)) 12

/-- Effect output `n` of the TICK's operand, an s16 (R87); 0 where the operand is too short (ill-formed, R80). -/
def effectOf (efreg : List Word) (n : Nat) : Int := (efreg.getD n 0).toInt

/-- The left and right parts of effect return `n` (R243, R247): nothing with EFSDL = 0. -/
def State.returnL (s : State) (efreg : List Word) (n : Nat) : Int :=
  if s.efsdl n ≠ 0 then sar (effectOf efreg n * s.params.lpan 0 (s.efpan n) (s.efsdl n)) 12 else 0
@[inherit_doc State.returnL]
def State.returnR (s : State) (efreg : List Word) (n : Nat) : Int :=
  if s.efsdl n ≠ 0 then sar (effectOf efreg n * s.params.rpan 0 (s.efpan n) (s.efsdl n)) 12 else 0

/-- A TICK under way: the state, the accumulators and the send list (R240, R249). -/
structure Mix where
  state : State
  accL : Int
  accR : Int
  sends : List (BitVec 4 × Int)
deriving DecidableEq, Repr

/-- A slot's turn (R250): an active slot is updated, sent and mixed, with the registers after its update. -/
def Mix.slotTurn (m : Mix) (i : Fin 64) : Mix :=
  if m.state.slots[i].active then
    let u := m.state.slotUpdate i
    { state := u.1
      accL := m.accL + u.1.directL i u.2
      accR := m.accR + u.1.directR i u.2
      sends := m.sends ++ [u.1.sendOf i u.2] }
  else m

/-- The turns of a list of slots, in order. -/
def Mix.slotTurns (m : Mix) (slots : List (Fin 64)) : Mix := slots.foldl Mix.slotTurn m

/-- An effect return's turn (R247). -/
def Mix.returnTurn (efreg : List Word) (m : Mix) (n : Nat) : Mix :=
  { m with accL := m.accL + m.state.returnL efreg n, accR := m.accR + m.state.returnR efreg n }

/-- The mix of a TICK: slots 0 to 63, then effect returns 0 to 15 (R250). -/
def State.mix (s : State) (efreg : List Word) : Mix :=
  (List.range 16).foldl (Mix.returnTurn efreg)
    (Mix.slotTurns { state := s, accL := 0, accR := 0, sends := [] } (List.finRange 64))

/-- The stereo sample (R248): `MIX_SHIFT` = 3, then the clip; no master volume. -/
def mixOut (acc : Int) : Int := clip16 (sar acc 3)

/-- `TICK(efreg)` (R250): the mix, then the timers, then the interrupt line. -/
def State.tick (s : State) (efreg : List Word) : State :=
  let m := s.mix efreg
  m.state.timersTick.checkIrq.ret (.tick (mixOut m.accL) (mixOut m.accR) m.sends)

/-- TICK (R250). -/
def execTick (efreg : List Word) (s : State) : Host.Outcome State Fault Refusal := .next (s.tick efreg)

end Sys2Proof.Machine
end

