-- ==== Sys2Proof/Machine/System.lean ====
section
/-! DEFINITION. RESET, MIDI_NOTIFY and the reserved op codes (spec/70_reset_and_hazards.md R330, R333, spec/45_timers_irq.md
R269, spec/30_encoding.md R90). -/

namespace Sys2Proof.Machine

/-- The state RESET leaves (R330, R43): wave RAM, the parameters and the `refused` mark stay (R333, R304), and the NOISE
table is drawn anew. -/
def State.resetOp (s : State) : State :=
  { s with
    regs := []
    slots := Vector.replicate 64 Slot.idle
    timCnt := Vector.replicate 3 0xFFFF
    irq := false
    irqSrc := .none
    midiPending := false
    fade := Fader.idle
    noise := Vector.ofFn fun i => Config.drawNoise s.draws i.val
    result := .none
    draws := s.draws + 1 }

/-- RESET (R330). -/
def execReset (s : State) : Host.Outcome State Fault Refusal := .next s.resetOp

/-- MIDI_NOTIFY (R269). -/
def execMidiNotify (p : Bool) (s : State) : Host.Outcome State Fault Refusal :=
  .next ((if p then (s.setMidi true).checkIrq else s.setMidi false).ret .none)

/-- A reserved op code: `Refuse(reserved_op)` (R90). -/
def execReserved (_op : BitVec 4) (_low : Word) (s : State) : Host.Outcome State Fault Refusal := .next (s.refuse .reservedOp)

end Sys2Proof.Machine
end

