-- ==== Sys2Proof/Machine/Dispatch.lean ====
section
/-! DEFINITION. One arm per operation of spec/opcode_table.json: its meaning. -/

namespace Sys2Proof.Machine

def exec (i : Instr) (s : State) : Host.Outcome State Fault Refusal :=
  match i with
  | .r16RefuseOdd a => Sys2Proof.Machine.execR16RefuseOdd a s
  | .r16RefuseWindow a => Sys2Proof.Machine.execR16RefuseWindow a s
  | .r16Slot a => Sys2Proof.Machine.execR16Slot a s
  | .r16Efspan a => Sys2Proof.Machine.execR16Efspan a s
  | .r16Unmapped a => Sys2Proof.Machine.execR16Unmapped a s
  | .r16Refused a => Sys2Proof.Machine.execR16Refused a s
  | .r16Monitor a => Sys2Proof.Machine.execR16Monitor a s
  | .r16Common a => Sys2Proof.Machine.execR16Common a s
  | .r16Irqreg a => Sys2Proof.Machine.execR16Irqreg a s
  | .w16RefuseOdd a v m => Sys2Proof.Machine.execW16RefuseOdd a v m s
  | .w16RefuseWindow a v m => Sys2Proof.Machine.execW16RefuseWindow a v m s
  | .w16SlotCtrl n v m => Sys2Proof.Machine.execW16SlotCtrl n v m s
  | .w16SlotEgrel n v m => Sys2Proof.Machine.execW16SlotEgrel n v m s
  | .w16SlotPitch n v m => Sys2Proof.Machine.execW16SlotPitch n v m s
  | .w16SlotLfo n v m => Sys2Proof.Machine.execW16SlotLfo n v m s
  | .w16SlotSa n v m => Sys2Proof.Machine.execW16SlotSa n v m s
  | .w16SlotLsa n v m => Sys2Proof.Machine.execW16SlotLsa n v m s
  | .w16SlotLea n v m => Sys2Proof.Machine.execW16SlotLea n v m s
  | .w16SlotEgrate n v m => Sys2Proof.Machine.execW16SlotEgrate n v m s
  | .w16SlotDspsend n v m => Sys2Proof.Machine.execW16SlotDspsend n v m s
  | .w16SlotDirect n v m => Sys2Proof.Machine.execW16SlotDirect n v m s
  | .w16SlotTl n v m => Sys2Proof.Machine.execW16SlotTl n v m s
  | .w16SlotStore a v m => Sys2Proof.Machine.execW16SlotStore a v m s
  | .w16Efspan a v m => Sys2Proof.Machine.execW16Efspan a v m s
  | .w16Unmapped a v m => Sys2Proof.Machine.execW16Unmapped a v m s
  | .w16Refused a v m => Sys2Proof.Machine.execW16Refused a v m s
  | .w16Monitor a v m => Sys2Proof.Machine.execW16Monitor a v m s
  | .w16Timer k v m => Sys2Proof.Machine.execW16Timer k v m s
  | .w16Scire v m => Sys2Proof.Machine.execW16Scire v m s
  | .w16Common a v m => Sys2Proof.Machine.execW16Common a v m s
  | .w16Irql v m => Sys2Proof.Machine.execW16Irql v m s
  | .w16Irqr v m => Sys2Proof.Machine.execW16Irqr v m s
  | .tick efreg => Sys2Proof.Machine.execTick efreg s
  | .fadeConfigure lengthS fadeS => Sys2Proof.Machine.execFadeConfigure lengthS fadeS s
  | .fadeAdvance l r => Sys2Proof.Machine.execFadeAdvance l r s
  | .fadeCount => Sys2Proof.Machine.execFadeCount s
  | .fadeTotal => Sys2Proof.Machine.execFadeTotal s
  | .reset => Sys2Proof.Machine.execReset s
  | .midiNotify p => Sys2Proof.Machine.execMidiNotify p s
  | .reserved op low => Sys2Proof.Machine.execReserved op low s

end Sys2Proof.Machine
end

