-- ==== Sys2Proof/Machine/Step.lean ====
section
/-! DEFINITION. One step of the machine: the environment's next event (spec/00_scope.md R7, spec/60_exceptions.md R320).

The block fetches no instructions (spec/10_state.md R20). Which operation comes next is the environment's choice (R7); in
the model it stands at the head of `State.input` (assumption log 1). A step takes that event away and applies it whole
(spec/20_memory.md R67). With no event left the block does nothing (R318: "It does no work between operations"). -/

namespace Sys2Proof.Machine

/-- The state with the events after the first. -/
def State.withInput (s : State) (rest : List Event) : State := { s with input := rest }

/-- One step: the next operation is decoded and run, or the next wave-RAM write is made. -/
def step (s : State) : Host.Outcome State Fault Refusal :=
  match s.input with
  | [] => .next s
  | .ramWrite a b :: rest => .next ((s.withInput rest).pokeRam a b)
  | .op t :: rest =>
    match decode t with
    | .ok i => exec i (s.withInput rest)
    | .error e => .refused (.malformedTransaction e)

/-- The state with the transaction of an opcode-table word, its operand words 0, before every other event (assumption log 1, 2). -/
def State.withFetchWord (s : State) (_nbits w : Nat) : State := { s with input := .op (transactionOfNat w) :: s.input }

end Sys2Proof.Machine
end

