-- ==== Sys2Proof/Machine/Pseudo.lean ====
section
/-! DEFINITION. The text forms and the pseudo-operations (spec/30_encoding.md R92, R93): each is a fixed sequence of
operations, expanded with the register words stored at expansion time. -/

namespace Sys2Proof.Machine

/-- The operations of a list, one after another, ending at the first that gives no next state. -/
def runOps : List Instr → State → Host.Outcome State Fault Refusal
  | [], s => .next s
  | i :: rest, s =>
    match exec i s with
    | .next t => runOps rest t
    | .fault r => .fault r
    | .refused r => .refused r

/-- `R16 a` (R92). -/
def asmR16 (a : Word) : Instr := decodeRead a

/-- `W16 a, v` (R92). -/
def asmW16 (a v : Word) : Instr := decodeWrite a v 0xFFFF

/-- `W16.L a, v` (R92). -/
def asmW16L (a v : Word) : Instr := decodeWrite a v 0x00FF

/-- `W16.H a, v` (R92). -/
def asmW16H (a v : Word) : Instr := decodeWrite a v 0xFF00

/-- `TICK` without operands (R92). -/
def asmTick : Instr := .tick (List.replicate 16 0)

/-- `SLOTW s, o, v` (R93). -/
def pseudoSlotw (i : Fin 64) (o : Nat) (v : Word) : List Instr := [asmW16 (slotOffset i o) v]

/-- `SETSA s, addr` (R93), with KYONEX = 0 in the second value written. -/
def State.pseudoSetsa (s : State) (i : Fin 64) (addr : BitVec 23) : List Instr :=
  [asmW16 (slotOffset i 0x04) (addr.extractLsb' 0 16),
   asmW16 (slotOffset i 0x00) ((s.sr i 0x00 &&& 0x7F80) ||| (addr.extractLsb' 16 7).setWidth 16)]

/-- `KEYON s` (R93). -/
def State.pseudoKeyon (s : State) (i : Fin 64) : List Instr := [asmW16 (slotOffset i 0x00) (s.sr i 0x00 ||| 0xC000)]

/-- `KEYOFF s` (R93). -/
def State.pseudoKeyoff (s : State) (i : Fin 64) : List Instr :=
  [asmW16 (slotOffset i 0x00) ((s.sr i 0x00 &&& ~~~ 0x4000) ||| 0x8000)]

/-- `KEYEXEC` (R93). -/
def State.pseudoKeyexec (s : State) : List Instr := [asmW16 0x0000 (s.reg 0x0000 ||| 0x8000)]

/-- `TICKN n` (R93). -/
def pseudoTickn (n : Nat) : List Instr := List.replicate n asmTick

/-- The FADE_ADVANCE on a TICK's output, an s16 pair (R8, R93). -/
def advanceOn : Result → List Instr
  | .tick l r _ => [.fadeAdvance (BitVec.ofInt 16 l) (BitVec.ofInt 16 r)]
  | .none => []
  | .word _ => []
  | .stereo _ _ => []
  | .count _ => []
  | .refused _ => []

/-- `SAMPLE` (R93): a TICK, then FADE_ADVANCE on its output. -/
def pseudoSample (s : State) : Host.Outcome State Fault Refusal :=
  match exec asmTick s with
  | .next t => runOps (advanceOn t.result) t
  | .fault r => .fault r
  | .refused r => .refused r

end Sys2Proof.Machine
end

