-- ==== Sys2Proof/Safety.lean ====
section
/-! DEFINITION. What counts as a valid run (spec/60_exceptions.md R304, R319), and the terms the statements are written in:
reads of one byte, frames, the invariants of a state, and the spec's own forms of what the machine computes step by step. -/

namespace Sys2Proof.Machine

/-! ### Runs -/

/-- A state no operation before which was refused: the premise of every claim about a run (R304). -/
abbrev State.valid (s : State) : Prop := s.refused = false

/-- `k` steps lead from `s` to `t` (R319: a run is a finite sequence of operations, applied in order). -/
def State.runsTo (s : State) (k : Nat) (t : State) : Prop :=
  match core.run k s with
  | .next u => u = t
  | .fault _ => False
  | .refused _ => False

/-- A safe run: it ends in a state without the `refused` mark (R319). -/
def State.runsSafely (s : State) (k : Nat) : Prop := ∃ t : State, s.runsTo k t ∧ t.valid

/-- The song has come to its configured end (R319, R285). -/
abbrev State.songDone (s : State) : Prop := s.fade.done = true

/-! ### Reads and frames -/

/-- The byte of wave RAM at `a` (R60). -/
def State.ramByte (s : State) (a : Nat) : Byte := cellsRead s.ram a

/-- Every byte of wave RAM reads in `t` as in `s`. -/
def State.sameRam (s t : State) : Prop := ∀ a, t.ramByte a = s.ramByte a

/-- Every register word outside `touched` reads in `t` as in `s`. -/
def State.sameRegsBut (s t : State) (touched : List Nat) : Prop := ∀ b, b ∉ touched → t.reg b = s.reg b

/-- The slots other than `i` are in `t` as in `s`. -/
def State.sameSlotsBut (s t : State) (i : Fin 64) : Prop := ∀ j : Fin 64, j ≠ i → t.slots[j] = s.slots[j]

/-! ### Refusal -/

/-- The op code of an operation, K[19:16] (R81). -/
def opCode (i : Instr) : Nat := ((encode i).key.extractLsb' 16 4).toNat

/-- The byte offset of a register operation, K[15:0] (R81). -/
def offsetOf (i : Instr) : Word := (encode i).key.extractLsb' 0 16

/-- The byte-enable mask of a host write (R80); every other operation has none. -/
def byteEnable : Instr → Option Word
  | .w16RefuseOdd _ _ m => some m
  | .w16RefuseWindow _ _ m => some m
  | .w16SlotCtrl _ _ m => some m
  | .w16SlotEgrel _ _ m => some m
  | .w16SlotPitch _ _ m => some m
  | .w16SlotLfo _ _ m => some m
  | .w16SlotSa _ _ m => some m
  | .w16SlotLsa _ _ m => some m
  | .w16SlotLea _ _ m => some m
  | .w16SlotEgrate _ _ m => some m
  | .w16SlotDspsend _ _ m => some m
  | .w16SlotDirect _ _ m => some m
  | .w16SlotTl _ _ m => some m
  | .w16SlotStore _ _ m => some m
  | .w16Efspan _ _ m => some m
  | .w16Unmapped _ _ m => some m
  | .w16Refused _ _ m => some m
  | .w16Monitor _ _ m => some m
  | .w16Timer _ _ m => some m
  | .w16Scire _ m => some m
  | .w16Common _ _ m => some m
  | .w16Irql _ m => some m
  | .w16Irqr _ m => some m
  | _ => none

/-- The value of an f64 pattern; none for an infinity or a NaN. -/
def f64Value (b : BitVec 64) : Option ℚ :=
  if f64NotFinite b then none
  else some ((if b.getLsbD 63 then -1 else 1) * (f64Mant b : ℚ) * 2 ^ ((f64Exp b : ℤ) - 1075))

/-- A negative, infinite or NaN operand of FADE_CONFIGURE (R303). -/
def badSeconds (b : BitVec 64) : Bool :=
  match f64Value b with
  | none => true
  | some q => decide (q < 0)

/-- The words whose access is out of scope: MIDI FIFO, DMA, DSP (R303, R30). -/
def outOfScope (a : Word) : Bool :=
  (decide (0x2808 ≤ a.toNat) && decide (a.toNat ≤ 0x280B)) || (decide (0x2880 ≤ a.toNat) && decide (a.toNat ≤ 0x288F))
    || (decide (0x3000 ≤ a.toNat) && decide (a.toNat ≤ 0x7FFF))

/-- The mask is one of the three of R66. -/
def maskAdmitted (m : Word) : Bool := [(0xFFFF : Word), 0x00FF, 0xFF00].contains m

/-- The table of R303, the first reason that applies: by op code, offset and byte enable; and FADE_CONFIGURE's operands. -/
def refusalOf (i : Instr) : Option RefuseReason :=
  if opCode i ≤ 1 then
    if (offsetOf i).getLsbD 0 then some .oddOffset
    else if 0x8000 ≤ (offsetOf i).toNat then some .offsetOutOfWindow
    else if (byteEnable i).any (fun m => !maskAdmitted m) then some .badByteEnable
    else if outOfScope (offsetOf i) then some (.outOfScopeRegister (offsetOf i))
    else none
  else if 9 ≤ opCode i then some .reservedOp
  else
    match i with
    | .fadeConfigure a b => if (badSeconds a || badSeconds b) = true then some .badFadeOperand else none
    | _ => none

/-! ### The spec's closed forms -/

/-- The word a host write leaves, byte by byte (R66). -/
def mergedWord (old v m : Word) : Word :=
  (if m.getLsbD 15 then v.extractLsb' 8 8 else old.extractLsb' 8 8)
    ++ (if m.getLsbD 0 then v.extractLsb' 0 8 else old.extractLsb' 0 8)

/-- A plain storage write: the offset, the value and the mask (R126 to R129, R136 to R143). -/
def storageWrite : Instr → Option (Nat × Word × Word)
  | .w16SlotSa i v m => some (i.val * 0x80 + 0x04, v, m)
  | .w16SlotLsa i v m => some (i.val * 0x80 + 0x08, v, m)
  | .w16SlotLea i v m => some (i.val * 0x80 + 0x0C, v, m)
  | .w16SlotEgrate i v m => some (i.val * 0x80 + 0x10, v, m)
  | .w16SlotDspsend i v m => some (i.val * 0x80 + 0x20, v, m)
  | .w16SlotDirect i v m => some (i.val * 0x80 + 0x24, v, m)
  | .w16SlotTl i v m => some (i.val * 0x80 + 0x28, v, m)
  | .w16SlotStore a v m => some (a.toNat, v, m)
  | .w16Efspan a v m => some (a.toNat, v, m)
  | .w16Monitor a v m => some (a.toNat, v, m)
  | .w16Common a v m => some (a.toNat, v, m)
  | .w16Irql v m => some (0x2D00, v, m)
  | _ => none

/-- Slot `j`'s word 0x00 as the key scan sees it, after a host write of slot `i`'s word 0x00 (R125). -/
def State.keyWord (s : State) (i : Fin 64) (v m : Word) (j : Fin 64) : Word :=
  if j = i then mergedWord (s.reg (i.val * 0x80)) v m else s.reg (j.val * 0x80)

/-- The key scan starts slot `j`: its KYONB is 1 and its EG is in RELEASE (R125). -/
def State.starts (s : State) (i : Fin 64) (v m : Word) (j : Fin 64) : Prop :=
  (s.keyWord i v m j).getLsbD 14 = true ∧ s.slots[j].eg.state = .release

/-- A signed OCT field (R87). -/
def octOf (w : Word) : Int := ((w.toNat / 2048 + 8) % 16 : Nat) - 8

/-- The pitch step of a word 0x18 (R180): FNS + 0x400 times 2^(OCT + 2), rounded down. -/
def pitchOf (w : Word) : Nat := (1024 + w.toNat % 1024) * 2 ^ ((w.toNat / 2048 + 8) % 16) / 64

/-- The rate index of a rate field `r` under words 0x14 and 0x18 (R153). -/
def rateOf (w14 w18 : Word) (r : Nat) : Nat :=
  let base : Int :=
    if w14.toNat / 1024 % 16 = 15 then 0 else octOf w18 + 2 * (w14.toNat / 1024 % 16 : Nat) + (w18.toNat / 512 % 2 : Nat)
  (min (max (base + 2 * (r : Int)) 0) 63).toNat

/-- An LFO latched from the fields `f` (LFOF), `ws` (waveform select) and `d` (depth); a depth of 0 latches nothing (R225). -/
def latchedLfo (p : Params) (l : Lfo) (f ws d : Nat) : Lfo :=
  if d = 0 then l
  else { phase := l.phase, phaseStep := p.lfoStep f, wave := waveOfField ws, depth := BitVec.ofNat 3 d }

/-- The index of the waveform entry that an LFO's next use reads: bits 15:8 of the phase after the advance (R220, R227, R228). -/
def Lfo.nextEntry (l : Lfo) : Fin 256 := Fin.ofNat 256 ((l.phase.toNat + l.phaseStep.toNat) / 256)

/-- `g` is a gain, in units of 2^-12, by which a TICK may change slot `i`'s step (R189, R227): unity with PLFOS = 0; else 16
times the entry of the scale table's latched row for the waveform after the phase's advance. The entry is any 32-bit value
where it lies past the row's end (R229; assumption log 24), or where the waveform was never computed (assumption log 12). -/
def State.pitchGainIs (s : State) (i : Fin 64) (g : Nat) : Prop :=
  let l := s.slots[i].plfo
  if s.plfos i = 0 then g = 4096
  else
    ∃ entry, g = entry * 16 ∧
      match s.pitchWave l.wave l.nextEntry with
      | some v => if v = 128 then entry < 2 ^ 32 else entry = s.params.pscales l.depth (v + 128).toNat
      | none => entry < 2 ^ 32

/-- `h` is a gain, in units of 2^-12, by which a TICK may change slot `i`'s sample (R228): unity with ALFOS = 0; else 16
times the entry of the scale table's latched row for the waveform after the phase's advance. The entry is any 32-bit value
where the waveform was never computed (assumption log 12). -/
def State.ampGainIs (s : State) (i : Fin 64) (h : Nat) : Prop :=
  let l := s.slots[i].alfo
  if s.alfos i = 0 then h = 4096
  else
    ∃ entry, h = entry * 16 ∧
      match s.ampWave l.wave l.nextEntry with
      | some v => entry = s.params.ascales l.depth v
      | none => entry < 2 ^ 32

/-- The slot's address after a TICK's advance, before loop control, with gain `g` of the pitch LFO (R189, R194). -/
def Slot.advanced (x : Slot) (g : Nat) : U32 := x.curAddr + BitVec.ofNat 32 (x.step.toNat * g / 4096)

/-- The index `a2` of the next sample after that advance (R194). -/
def Slot.nextIndex (x : Slot) (g : Nat) : Nat := (x.advanced g + 0x1000).toNat / 4096

/-- Nibble `n` of the stream whose nibble 0 is the low nibble of the byte at `start` (R190). -/
def State.nibbleOf (s : State) (start n : Nat) : Nat :=
  (s.ramByte ((start + n / 2) % 0x800000)).toNat / 16 ^ (n % 2) % 16

/-- The decoder after nibbles `first` to `first + count - 1` of that stream (R186, R131). -/
def State.decoded (s : State) (start first count : Nat) (p : Predictor) : Predictor :=
  (List.range count).foldl (fun q k => adpcmStep s.params q (s.nibbleOf start (first + k))) p

/-- The signed 16-bit sample at byte address `a` (R62). -/
def State.sample16 (s : State) (a : Nat) : Int :=
  (s.ramByte ((a + 1) % 0x800000) ++ s.ramByte (a % 0x800000)).toInt

/-- The 8-bit sample at byte address `a`, in the 16-bit range (R185). -/
def State.sample8 (s : State) (a : Nat) : Int := (s.ramByte (a % 0x800000)).toInt * 256

/-- Slot `i` is advanced by a TICK: active and not frozen (R163, R181). -/
def State.runs (s : State) (i : Fin 64) : Bool := s.slots[i].active && !s.ssctl i

/-- Byte address `a`, masked to 23 bits, lies below `RAM_SIZE`: a read there is no draw (R61). -/
def State.inRam (s : State) (a : Nat) : Prop := a % 0x800000 < s.params.ramSize.bytes

/-- The bytes that hold nibbles `first` to `first + count - 1` of the stream at `start` lie below `RAM_SIZE` (R190). -/
def State.streamInRam (s : State) (start first count : Nat) : Prop :=
  ∀ k, k < count → s.inRam (start + (first + k) / 2)

/-- The byte address of nibble 0 of the stream that a slot's decoder stands in, with 2^32 added (R186, R190). -/
def Slot.streamStart (x : Slot) : Nat := x.ad.base.toNat + 0x100000000 - x.ad.step.toNat / 2

/-- Every byte that slot `i`'s fetch reads for the sample of index `k` lies below `RAM_SIZE` (R183 to R187). -/
def State.sampleInRam (s : State) (i : Fin 64) (k : Nat) : Prop :=
  if s.pcms i = 0 then s.inRam (s.sa i + 2 * k) ∧ s.inRam (s.sa i + 2 * k + 1)
  else if s.pcms i = 1 then s.inRam (s.sa i + k)
  else
    s.slots[i].ad.quant ≠ 0 →
      s.streamInRam s.slots[i].streamStart s.slots[i].ad.step.toNat (k - s.slots[i].ad.step.toNat)

/-- Every byte that slot `i`'s fetch reads lies below `RAM_SIZE`. An ADPCM fetch reads up to the next sample. -/
def State.fetchInRam (s : State) (i : Fin 64) : Prop :=
  (s.pcms i < 2 → s.sampleInRam i (s.slots[i].curAddr.toNat / 4096)) ∧ s.sampleInRam i (s.slots[i].nxtAddr.toNat / 4096)

/-- Every byte that the key scan reads to start slot `i` lies below `RAM_SIZE` (R125, R131). -/
def State.keyOnInRam (s : State) (i : Fin 64) : Prop :=
  s.kyonb i = true → s.slots[i].eg.state = .release → 2 ≤ s.pcms i → s.streamInRam (s.sa i) 0 (s.lsa i)

/-- No TICK on `s` draws a value in slot `i`'s update: its fetch stays below `RAM_SIZE`, and its LFOs in use meet neither the
pitch-LFO noise overflow nor a waveform never computed (R61, R229). -/
def State.slotDrawFree (s : State) (i : Fin 64) : Prop :=
  s.fetchInRam i ∧
    (s.plfos i ≠ 0 →
      s.slots[i].plfo.wave ≠ .none ∧ (s.slots[i].plfo.wave = .noise → ∀ n : Fin 256, s.noise[n] ≠ 0)) ∧
    (s.alfos i ≠ 0 → s.slots[i].alfo.wave ≠ .none)

/-- No slot's update in a TICK on `s` draws a value. -/
def State.drawFree (s : State) : Prop := ∀ i : Fin 64, s.runs i = true → s.slotDrawFree i

/-- `s` and `t` agree on all that slot `i`'s update may read: its runtime state, its 64 words, the parameters, wave RAM and
the NOISE table (R182, R222). -/
def State.agreeOn (s t : State) (i : Fin 64) : Prop :=
  t.slots[i] = s.slots[i] ∧ (∀ o, o < 0x80 → t.reg (i.val * 0x80 + o) = s.reg (i.val * 0x80 + o)) ∧
    t.params = s.params ∧ s.sameRam t ∧ t.noise = s.noise

/-! ### Invariants -/

/-- The offsets whose words the block stores (R22). -/
def storedReg (a : Nat) : Bool :=
  a % 2 == 0 &&
    (decide (a ≤ 0x2044) || a == 0x2D00 || a == 0x2D04
      || (decide (0x2800 ≤ a) && decide (a ≤ 0x28BC)
        && !(decide (0x2808 ≤ a) && decide (a ≤ 0x280A)) && !(decide (0x2880 ≤ a) && decide (a ≤ 0x288E))))

/-- The stores are in canonical form; the register file lists only words that the block stores, wave RAM only addresses
below `RAM_SIZE` (R22, R60). -/
def State.storageInv (s : State) : Prop :=
  RegFile.wf s.regs = true ∧ (∀ e ∈ s.regs, storedReg e.1 = true) ∧
    Memory.wf s.ram = true ∧ ∀ e ∈ s.ram, e.1 < s.params.ramSize.bytes

/-- KYONEX reads 0 in every slot (R24, R121). -/
def State.kyonexInv (s : State) : Prop := ∀ i : Fin 64, (s.sr i 0x00).getLsbD 15 = false

/-- The EG volume of a slot is in 0 .. 0x3FF << EG_FRAC (R34). -/
def State.volumeInv (s : State) (i : Fin 64) : Prop :=
  0 ≤ s.slots[i].eg.volume ∧ s.slots[i].eg.volume ≤ 0x3FF * 2 ^ s.params.egFrac.bits

/-- The ADPCM fields of a slot (R36, R187): the predictors are s16 values; both steps are 0 until the decoder is first
initialised, and in 0x7F .. 0x6000 from then on. -/
def State.adpcmInv (s : State) (i : Fin 64) : Prop :=
  (-32768 ≤ s.slots[i].ad.sample ∧ s.slots[i].ad.sample ≤ 32767) ∧
    (-32768 ≤ s.slots[i].ad.lpSample ∧ s.slots[i].ad.lpSample ≤ 32767) ∧
    ((s.slots[i].ad.quant = 0 ∧ s.slots[i].ad.lpQuant = 0) ∨
      (0x7F ≤ s.slots[i].ad.quant ∧ s.slots[i].ad.quant ≤ 0x6000 ∧
        0x7F ≤ s.slots[i].ad.lpQuant ∧ s.slots[i].ad.lpQuant ≤ 0x6000))

/-- The next address of an active slot is one sample after the current one (R33), its latched step is the pitch step of its
word 0x18, and its latched decay threshold is that of its word 0x14 (R35). -/
def State.activeInv (s : State) (i : Fin 64) : Prop :=
  s.slots[i].active = true →
    s.slots[i].nxtAddr = s.slots[i].curAddr + 0x1000 ∧ s.slots[i].step = s.pitchStep i ∧
      s.slots[i].eg.dl.toNat = 31 - s.dl i

/-- An LFO whose depth field is not 0 has latched the fields of word 0x1C (R225). -/
def State.lfoInv (s : State) (i : Fin 64) : Prop :=
  (s.plfos i ≠ 0 →
    s.slots[i].plfo.depth.toNat = s.plfos i ∧ s.slots[i].plfo.wave = waveOfField (s.plfows i) ∧
      s.slots[i].plfo.phaseStep = s.params.lfoStep (s.lfof i)) ∧
  (s.alfos i ≠ 0 →
    s.slots[i].alfo.depth.toNat = s.alfos i ∧ s.slots[i].alfo.wave = waveOfField (s.alfows i) ∧
      s.slots[i].alfo.phaseStep = s.params.lfoStep (s.lfof i))

/-- What holds of every slot. -/
def State.slotInv (s : State) : Prop :=
  ∀ i : Fin 64, s.volumeInv i ∧ s.adpcmInv i ∧ s.activeInv i ∧ s.lfoInv i

/-- A timer counter is stopped or at most 0xFF00, and while it is not stopped its word shows its high byte (R38, R261, R262). -/
def State.timerInv (s : State) : Prop :=
  ∀ k : Fin 3, s.timCnt[k] = 0xFFFF ∨
    (s.timCnt[k].toNat ≤ 0xFF00 ∧ bits (s.reg (timerReg k)) 7 0 = s.timCnt[k].toNat / 256)

/-- The fader's fields (R281): the ramp does not run backward; a disabled fade is never done and never ends. -/
def State.fadeInv (s : State) : Prop :=
  s.fade.beginAt.toNat ≤ s.fade.endAt.toNat ∧
    (s.fade.enabled = false →
      s.fade.done = false ∧ s.fade.beginAt.toNat = 0xFFFFFFFF ∧ s.fade.endAt.toNat = 0xFFFFFFFF)

/-- An asserted line has a source (R39, R265). -/
def State.irqInv (s : State) : Prop := s.irq = true → s.irqSrc ≠ .none

end Sys2Proof.Machine
end

