-- ==== Sys2Proof/Certificates/Slice0/Obligations.lean ====
section
/-! DEFINITION. The statements about the machine. Each docstring names the rules of spec/ it formalises, or the assumption
log entries it rests on.

The frame of an operation is written as `t = { s with … }`: every field of State that is not listed is unchanged. Register
words are compared through `State.reg`, bytes of wave RAM through `State.ramByte`. -/

open Sys2Proof Sys2Proof.Machine

/-! ### Encoding and decoding -/

/-- Decoding the transaction of a well-formed operation gives it back (R80 to R83). How the operand words
lie beside the key is the model's choice (assumption log 2). -/
def Obligations.DecodeEncode : Prop := ∀ i : Instr, i.wf = true → decode (encode i) = .ok i

/-- What the decoder gives is well-formed, and its transaction is the one decoded, but for zero words after the operands
(R80, R81, R82). That the operand words lie so, and that zero words may follow them, is the model's choice (assumption log 2). -/
def Obligations.DecodedEncodesBack : Prop :=
  ∀ (t : Transaction) (i : Instr), decode t = .ok i →
    i.wf = true ∧ (encode i).key = t.key ∧
      ∃ zeros : List Word, (∀ z ∈ zeros, z = 0) ∧ t.data = (encode i).data ++ zeros

/-- R82's table, row by row: the first row whose condition holds decides (`o` is the slot-relative offset of R83).
That the data words are the value and the complement of the byte enable is the model's choice (assumption log 2). -/
def Obligations.AddressTable : Prop :=
  ∀ a v m : Word,
    let n := a.toNat
    let o := (a &&& 0x7F).toNat
    let s : Fin 64 := Fin.ofNat 64 (n / 128)
    let R (i : Instr) : Prop := decode { key := (0#4 ++ a : BitVec 20), data := [] } = .ok i
    let W (i : Instr) : Prop := decode { key := (1#4 ++ a : BitVec 20), data := [v, ~~~ m] } = .ok i
    if a.getLsbD 0 = true then R (.r16RefuseOdd a) ∧ W (.w16RefuseOdd a v m)
    else if 0x8000 ≤ n then R (.r16RefuseWindow a) ∧ W (.w16RefuseWindow a v m)
    else if n < 0x2000 ∧ o = 0x00 then R (.r16Slot a) ∧ W (.w16SlotCtrl s v m)
    else if n < 0x2000 ∧ o = 0x14 then R (.r16Slot a) ∧ W (.w16SlotEgrel s v m)
    else if n < 0x2000 ∧ o = 0x18 then R (.r16Slot a) ∧ W (.w16SlotPitch s v m)
    else if n < 0x2000 ∧ o = 0x1C then R (.r16Slot a) ∧ W (.w16SlotLfo s v m)
    else if n < 0x2000 ∧ o = 0x04 then R (.r16Slot a) ∧ W (.w16SlotSa s v m)
    else if n < 0x2000 ∧ o = 0x08 then R (.r16Slot a) ∧ W (.w16SlotLsa s v m)
    else if n < 0x2000 ∧ o = 0x0C then R (.r16Slot a) ∧ W (.w16SlotLea s v m)
    else if n < 0x2000 ∧ o = 0x10 then R (.r16Slot a) ∧ W (.w16SlotEgrate s v m)
    else if n < 0x2000 ∧ o = 0x20 then R (.r16Slot a) ∧ W (.w16SlotDspsend s v m)
    else if n < 0x2000 ∧ o = 0x24 then R (.r16Slot a) ∧ W (.w16SlotDirect s v m)
    else if n < 0x2000 ∧ o = 0x28 then R (.r16Slot a) ∧ W (.w16SlotTl s v m)
    else if n < 0x2000 then R (.r16Slot a) ∧ W (.w16SlotStore a v m)
    else if 0x2000 ≤ n ∧ n ≤ 0x2044 then R (.r16Efspan a) ∧ W (.w16Efspan a v m)
    else if 0x2046 ≤ n ∧ n ≤ 0x27FE then R (.r16Unmapped a) ∧ W (.w16Unmapped a v m)
    else if (0x2808 ≤ n ∧ n ≤ 0x280A) ∨ (0x2880 ≤ n ∧ n ≤ 0x288E) then R (.r16Refused a) ∧ W (.w16Refused a v m)
    else if n = 0x2810 ∨ n = 0x2814 ∨ n = 0x28B8 then R (.r16Monitor a) ∧ W (.w16Monitor a v m)
    else if n = 0x2890 then R (.r16Common a) ∧ W (.w16Timer 0 v m)
    else if n = 0x2894 then R (.r16Common a) ∧ W (.w16Timer 1 v m)
    else if n = 0x2898 then R (.r16Common a) ∧ W (.w16Timer 2 v m)
    else if n = 0x28A4 then R (.r16Common a) ∧ W (.w16Scire v m)
    else if 0x2800 ≤ n ∧ n ≤ 0x28BC then R (.r16Common a) ∧ W (.w16Common a v m)
    else if n = 0x2D00 then R (.r16Irqreg a) ∧ W (.w16Irql v m)
    else if n = 0x2D04 then R (.r16Irqreg a) ∧ W (.w16Irqr v m)
    else if 0x3000 ≤ n ∧ n ≤ 0x7FFE then R (.r16Refused a) ∧ W (.w16Refused a v m)
    else R (.r16Unmapped a) ∧ W (.w16Unmapped a v m)

/-- Keys written out from R81 and R82, with operand words of 0, decode to the operations of their rows.
What operand words of 0 stand for is the model's choice (assumption log 2). -/
def Obligations.KeysDecode : Prop :=
  decodeTableWord 24 0x00088 = some (.r16Slot 0x0088) ∧
  decodeTableWord 24 0x02810 = some (.r16Monitor 0x2810) ∧
  decodeTableWord 24 0x10080 = some (.w16SlotCtrl 1 0 0xFFFF) ∧
  decodeTableWord 24 0x11FA8 = some (.w16SlotTl 63 0 0xFFFF) ∧
  decodeTableWord 24 0x12894 = some (.w16Timer 1 0 0xFFFF) ∧
  decodeTableWord 24 0x128A4 = some (.w16Scire 0 0xFFFF) ∧
  decodeTableWord 24 0x20000 = some (.tick (List.replicate 16 0)) ∧
  decodeTableWord 24 0x30000 = some (.fadeConfigure 0 0) ∧
  decodeTableWord 24 0x40000 = some (.fadeAdvance 0 0) ∧
  decodeTableWord 24 0x70000 = some .reset ∧
  decodeTableWord 24 0x80000 = some (.midiNotify false) ∧
  decodeTableWord 24 0x91234 = some (.reserved 9 0x1234)

/-! ### Steps -/

/-- A step whose next event is an operation takes the event away and runs the operation decoded (R7, R67).
That the environment's operations stand in `State.input` is the model's choice (assumption log 1). -/
def Obligations.StepRunsDecoded : Prop :=
  ∀ (s : State) (t : Transaction) (rest : List Event) (i : Instr),
    s.input = .op t :: rest → decode t = .ok i → step s = exec i { s with input := rest }

/-- The other steps, the model's choices of assumption log 1, 3 and 10: with no event nothing changes; a wave-RAM write
changes that byte alone; a transaction that is no operation is refused. -/
def Obligations.StepOtherEvents : Prop :=
  (∀ s : State, s.input = [] → step s = .next s) ∧
  (∀ (s : State) (a : Nat) (b : Byte) (rest : List Event), s.input = .ramWrite a b :: rest →
    Memory.wf s.ram = true →
      ∃ t : State, step s = .next t ∧ t = { s with input := rest, ram := t.ram } ∧
        ∀ x, x < s.params.ramSize.bytes → t.ramByte x = if x = a then b else s.ramByte x) ∧
  (∀ (s : State) (t : Transaction) (rest : List Event) (e : DecodeError),
    s.input = .op t :: rest → decode t = .error e → step s = .refused (.malformedTransaction e))

/-- Every operation is enabled in every state, and none touches the parameters, wave RAM or what is yet to come
(R305, R300, R10, R42, R60). -/
def Obligations.ExecFrame : Prop :=
  ∀ (i : Instr) (s : State), ∃ t : State, exec i s = .next t ∧
    t.params = s.params ∧ t.ram = s.ram ∧ s.sameRam t ∧ t.input = s.input

/-! ### Refusal -/

/-- Exactly the operations of R303's table are refused, for the first reason that applies; the mark is set, no value is
returned, and nothing else changes. That a refusal is a next state whose result names the reason is the model's reading
(assumption log 4), and so is that the operand -0.0 is no negative number (assumption log 13). -/
def Obligations.RefusalTable : Prop :=
  ∀ (i : Instr) (s : State), i.wf = true →
    match refusalOf i with
    | some why => exec i s = .next { s with refused := true, result := .refused why }
    | none => ∃ t : State, exec i s = .next t ∧ t.refused = s.refused ∧ ∀ why, t.result ≠ .refused why

/-- No operation clears the mark, RESET included, and no step does (R304, R41). -/
def Obligations.RefusedIsSticky : Prop :=
  (∀ (i : Instr) (s t : State), exec i s = .next t → s.refused = true → t.refused = true) ∧
  (∀ s t : State, step s = .next t → s.refused = true → t.refused = true)

/-! ### Host reads -/

/-- A read of a slot, effect-return, common or interrupt word returns the stored word and changes nothing (R121 to R124, R68). -/
def Obligations.StoredReads : Prop :=
  ∀ (a : Word) (s : State),
    exec (.r16Slot a) s = .next { s with result := .word (s.reg a.toNat) } ∧
    exec (.r16Efspan a) s = .next { s with result := .word (s.reg a.toNat) } ∧
    exec (.r16Common a) s = .next { s with result := .word (s.reg a.toNat) } ∧
    exec (.r16Irqreg a) s = .next { s with result := .word (s.reg a.toNat) }

/-- A read of a monitor or an unmapped word returns a draw and changes no state of the block; a write of an unmapped word
changes none (R84, R85). A read of a wave-RAM byte masks its address to 23 bits and returns the byte there below `RAM_SIZE`
and a draw from `RAM_SIZE` on; a 16-bit sample is two such reads, the low byte first (R61, R62). That a draw is the next
value of a counted sequence is the model's choice (assumption log 7). -/
def Obligations.UnsettledWords : Prop :=
  ∀ (a v m : Word) (s : State),
    exec (.r16Monitor a) s = .next { s with result := .word (Config.drawWord s.draws), draws := s.draws + 1 } ∧
    exec (.r16Unmapped a) s = .next { s with result := .word (Config.drawWord s.draws), draws := s.draws + 1 } ∧
    (maskAdmitted m = true → exec (.w16Unmapped a v m) s = .next { s with result := .none }) ∧
    ∀ address d : Nat,
      s.memByte address d =
        (if address % 0x800000 < s.params.ramSize.bytes then (s.ramByte (address % 0x800000), d)
          else (Config.drawByte d, d + 1)) ∧
      (let lo := s.memByte address d
       let hi := s.memByte ((address + 1) % 0x800000) lo.2
       (s.memWord address d).1.toNat = lo.1.toNat + 256 * hi.1.toNat ∧ (s.memWord address d).2 = hi.2)

/-! ### Host writes -/

/-- The plain storage writes: the word at the offset takes the enabled bytes of the value, and nothing else changes
(R126 to R129, R136 to R143, by R120 and R66). -/
def Obligations.StorageWrites : Prop :=
  ∀ (i : Instr) (a : Nat) (v m : Word) (s : State),
    storageWrite i = some (a, v, m) → maskAdmitted m = true → RegFile.wf s.regs = true →
      ∃ t : State, exec i s = .next t ∧ t = { s with regs := t.regs, result := .none } ∧
        t.reg a = mergedWord (s.reg a) v m ∧ s.sameRegsBut t [a] ∧ s.sameRam t

/-- R133: a write of slot word 0x14 latches the unscaled release step and the decay threshold. -/
def Obligations.EgrelWrite : Prop :=
  ∀ (i : Fin 64) (v m : Word) (s : State), maskAdmitted m = true → RegFile.wf s.regs = true →
    let a := i.val * 0x80 + 0x14
    let w := mergedWord (s.reg a) v m
    ∃ t : State, exec (.w16SlotEgrel i v m) s = .next t ∧
      t = { s with regs := t.regs, slots := t.slots, result := .none } ∧
      t.reg a = w ∧ s.sameRegsBut t [a] ∧ s.sameSlotsBut t i ∧ s.sameRam t ∧
      t.slots[i] =
        { s.slots[i] with
          eg :=
            { s.slots[i].eg with
              rr := s.params.drEntry (2 * (w.toNat % 32))
              dl := BitVec.ofNat 5 (0x1F - w.toNat / 32 % 32) } }

/-- R134: a write of slot word 0x18 latches the pitch step, at once and without touching the address. -/
def Obligations.PitchWrite : Prop :=
  ∀ (i : Fin 64) (v m : Word) (s : State), maskAdmitted m = true → RegFile.wf s.regs = true →
    let a := i.val * 0x80 + 0x18
    let w := mergedWord (s.reg a) v m
    ∃ t : State, exec (.w16SlotPitch i v m) s = .next t ∧
      t = { s with regs := t.regs, slots := t.slots, result := .none } ∧
      t.reg a = w ∧ s.sameRegsBut t [a] ∧ s.sameSlotsBut t i ∧ s.sameRam t ∧
      t.slots[i] = { s.slots[i] with step := t.slots[i].step } ∧
      t.slots[i].step.toNat = pitchOf w ∧ 0x10 ≤ pitchOf w ∧ pitchOf w ≤ 0xFFE00

/-- R135: a write of slot word 0x1C latches the LFOs whose depth field is not 0, and keeps the phases. -/
def Obligations.LfoWrite : Prop :=
  ∀ (i : Fin 64) (v m : Word) (s : State), maskAdmitted m = true → RegFile.wf s.regs = true →
    let a := i.val * 0x80 + 0x1C
    let w := mergedWord (s.reg a) v m
    let f := w.toNat / 1024 % 32
    ∃ t : State, exec (.w16SlotLfo i v m) s = .next t ∧
      t = { s with regs := t.regs, slots := t.slots, result := .none } ∧
      t.reg a = w ∧ s.sameRegsBut t [a] ∧ s.sameSlotsBut t i ∧ s.sameRam t ∧
      t.slots[i] =
        { s.slots[i] with
          plfo := latchedLfo s.params s.slots[i].plfo f (w.toNat / 256 % 4) (w.toNat / 32 % 8)
          alfo := latchedLfo s.params s.slots[i].alfo f (w.toNat / 8 % 4) (w.toNat % 8) }

/-- R262: a write of a timer word reloads that timer's counter, whichever bytes are enabled. -/
def Obligations.TimerWrite : Prop :=
  ∀ (k : Fin 3) (v m : Word) (s : State), maskAdmitted m = true → RegFile.wf s.regs = true →
    let a := 0x2890 + 4 * k.val
    let w := mergedWord (s.reg a) v m
    ∃ t : State, exec (.w16Timer k v m) s = .next t ∧
      t = { s with regs := t.regs, timCnt := t.timCnt, result := .none } ∧
      t.reg a = w ∧ s.sameRegsBut t [a] ∧ s.sameRam t ∧
      t.timCnt[k].toNat = w.toNat % 256 * 256 ∧ ∀ j : Fin 3, j ≠ k → t.timCnt[j] = s.timCnt[j]

/-- R266: a write of SCIRE clears the pending bits it names, and a timer bit among them deasserts the line. -/
def Obligations.ScireWrite : Prop :=
  ∀ (v m : Word) (s : State), maskAdmitted m = true → RegFile.wf s.regs = true →
    let w := mergedWord (s.reg 0x28A4) v m
    ∃ t : State, exec (.w16Scire v m) s = .next t ∧
      t = { s with regs := t.regs, irq := (if w &&& 0x1C0 ≠ 0 then false else s.irq), result := .none } ∧
      t.reg 0x28A4 = w ∧ t.reg 0x28A0 = s.reg 0x28A0 &&& ~~~ w ∧
      s.sameRegsBut t [0x28A4, 0x28A0] ∧ s.sameRam t

/-- R268: a write that leaves IRQR non-zero deasserts the line; no pending bit changes. -/
def Obligations.IrqrWrite : Prop :=
  ∀ (v m : Word) (s : State), maskAdmitted m = true → RegFile.wf s.regs = true →
    let w := mergedWord (s.reg 0x2D04) v m
    ∃ t : State, exec (.w16Irqr v m) s = .next t ∧
      t = { s with regs := t.regs, irq := (if w ≠ 0 then false else s.irq), result := .none } ∧
      t.reg 0x2D04 = w ∧ s.sameRegsBut t [0x2D04] ∧ s.sameRam t

/-! ### Key-on and key-off -/

/-- A write that leaves KYONEX of slot word 0x00 clear is plain storage (R125). -/
def Obligations.ControlWriteWithoutExecute : Prop :=
  ∀ (i : Fin 64) (v m : Word) (s : State), maskAdmitted m = true → RegFile.wf s.regs = true →
    (s.keyWord i v m i).getLsbD 15 = false →
      ∃ t : State, exec (.w16SlotCtrl i v m) s = .next t ∧ t = { s with regs := t.regs, result := .none } ∧
        t.reg (i.val * 0x80) = s.keyWord i v m i ∧ s.sameRegsBut t [i.val * 0x80] ∧ s.sameRam t

/-- With KYONEX set, every slot in RELEASE whose KYONB is 1 is started, every slot whose KYONB is 0 goes to RELEASE and
stays as active as it was, and every other slot is unchanged (R125, R130, R132). -/
def Obligations.KeyScanSlots : Prop :=
  ∀ (i : Fin 64) (v m : Word) (s : State), maskAdmitted m = true → RegFile.wf s.regs = true →
    (s.keyWord i v m i).getLsbD 15 = true →
      ∃ t : State, exec (.w16SlotCtrl i v m) s = .next t ∧
        t = { s with regs := t.regs, slots := t.slots, draws := t.draws, result := .none } ∧ s.sameRam t ∧
        ∀ j : Fin 64,
          (s.starts i v m j →
            t.slots[j] =
              { active := true
                lpend := false
                curAddr := 0
                nxtAddr := 0x1000
                prvAddr := 0xFFFFFFFF
                step := BitVec.ofNat 32 (pitchOf (s.reg (j.val * 0x80 + 0x18)))
                eg := t.slots[j].eg
                ad := t.slots[j].ad
                plfo :=
                  latchedLfo s.params s.slots[j].plfo ((s.reg (j.val * 0x80 + 0x1C)).toNat / 1024 % 32)
                    ((s.reg (j.val * 0x80 + 0x1C)).toNat / 256 % 4) ((s.reg (j.val * 0x80 + 0x1C)).toNat / 32 % 8)
                alfo :=
                  latchedLfo s.params s.slots[j].alfo ((s.reg (j.val * 0x80 + 0x1C)).toNat / 1024 % 32)
                    ((s.reg (j.val * 0x80 + 0x1C)).toNat / 8 % 4) ((s.reg (j.val * 0x80 + 0x1C)).toNat % 8) } ∧
            t.slots[j].eg.state = .attack) ∧
          ((s.keyWord i v m j).getLsbD 14 = false →
            t.slots[j] = { s.slots[j] with eg := { s.slots[j].eg with state := .release } }) ∧
          ((s.keyWord i v m j).getLsbD 14 = true → s.slots[j].eg.state ≠ .release → t.slots[j] = s.slots[j])

/-- With KYONEX set, the register words after the write: KYONEX reads 0, the loop-disable sentinel stands in LEA of every
slot started as ADPCM with LSA above LEA, and every other word is as the store left it (R125, R131, R132). -/
def Obligations.KeyScanRegisters : Prop :=
  ∀ (i : Fin 64) (v m : Word) (s t : State), maskAdmitted m = true → RegFile.wf s.regs = true →
    (s.keyWord i v m i).getLsbD 15 = true → exec (.w16SlotCtrl i v m) s = .next t →
      t.reg (i.val * 0x80) = s.keyWord i v m i &&& 0x7FFF ∧
      (∀ j : Fin 64, s.starts i v m j → 2 ≤ (s.keyWord i v m j).toNat / 128 % 4 →
        (s.reg (j.val * 0x80 + 0x0C)).toNat < (s.reg (j.val * 0x80 + 0x08)).toNat →
          t.reg (j.val * 0x80 + 0x0C) = 0xFFFF) ∧
      (∀ a : Nat, a ≠ i.val * 0x80 →
        (∀ j : Fin 64, a = j.val * 0x80 + 0x0C →
          ¬(s.starts i v m j ∧ 2 ≤ (s.keyWord i v m j).toNat / 128 % 4 ∧
            (s.reg (j.val * 0x80 + 0x0C)).toNat < (s.reg (j.val * 0x80 + 0x08)).toNat)) →
          t.reg a = s.reg a)

/-- R153: the EG a started slot latches, from its words 0x10, 0x14 and 0x18, and its starting volume. -/
def Obligations.KeyOnEnvelope : Prop :=
  ∀ (i j : Fin 64) (v m : Word) (s t : State), maskAdmitted m = true → RegFile.wf s.regs = true →
    (s.keyWord i v m i).getLsbD 15 = true → s.starts i v m j → exec (.w16SlotCtrl i v m) s = .next t →
      let p := s.params
      let w10 := (s.reg (j.val * 0x80 + 0x10)).toNat
      let w14 := s.reg (j.val * 0x80 + 0x14)
      let w18 := s.reg (j.val * 0x80 + 0x18)
      t.slots[j].eg =
        { state := .attack
          volume := 0x17F * 2 ^ p.egFrac.bits
          ar := p.arEntry (rateOf w14 w18 (w10 % 32))
          d1r := p.drEntry (rateOf w14 w18 (w10 / 64 % 32))
          d2r := p.drEntry (rateOf w14 w18 (w10 / 2048))
          rr := p.drEntry (rateOf w14 w18 (w14.toNat % 32))
          dl := BitVec.ofNat 5 (0x1F - w14.toNat / 32 % 32)
          hold := w10 / 32 % 2 == 1 }

/-- A slot started as ADPCM: the decoder stands at nibble 0 of the stream at SA, and the loop cache is the predictor after
LSA nibbles, where their bytes lie below `RAM_SIZE` (R131; past it a byte read is a draw, R61). A slot started as PCM keeps
its decoder (R130). -/
def Obligations.AdpcmKeyOn : Prop :=
  ∀ (i j : Fin 64) (v m : Word) (s t : State), maskAdmitted m = true → RegFile.wf s.regs = true →
    (s.keyWord i v m i).getLsbD 15 = true → s.starts i v m j → exec (.w16SlotCtrl i v m) s = .next t →
      let w := (s.keyWord i v m j).toNat
      let sa := w % 128 * 65536 + (s.reg (j.val * 0x80 + 0x04)).toNat
      let lsa := (s.reg (j.val * 0x80 + 0x08)).toNat
      let p := s.decoded sa 0 lsa { sample := 0, quant := 0x7F }
      let y := t.slots[j].ad
      (2 ≤ w / 128 % 4 →
        y = { y with sample := 0, quant := 0x7F, step := 0, base := BitVec.ofNat 32 sa } ∧
        (s.streamInRam sa 0 lsa → y.lpSample = p.sample ∧ y.lpQuant = p.quant)) ∧
      (w / 128 % 4 < 2 → y = s.slots[j].ad)

/-- The key scan's result does not depend on the order in which it visits the slots (R145), where every byte it reads lies
below `RAM_SIZE`, so that none is a draw: that draws are numbered in the order they are made is the model's choice
(assumption log 7). -/
def Obligations.KeyScanOrder : Prop :=
  ∀ (s : State) (l : List (Fin 64)), (∀ j : Fin 64, s.keyOnInRam j) → RegFile.wf s.regs = true →
    l.Perm (List.finRange 64) → l.foldl State.scanSlot s = s.keyScan

/-- KEYON starts a slot in RELEASE and leaves any other slot's playback alone; KEYOFF then KEYON starts it from any state
(R93, R144). -/
def Obligations.KeyonRestart : Prop :=
  ∀ (i : Fin 64) (s : State), RegFile.wf s.regs = true →
    (s.slots[i].eg.state = .release →
      ∃ t : State, runOps (s.pseudoKeyon i) s = .next t ∧ t.slots[i].active = true ∧ t.slots[i].eg.state = .attack ∧
        t.slots[i].curAddr = 0) ∧
    (s.slots[i].eg.state ≠ .release →
      ∃ t : State, runOps (s.pseudoKeyon i) s = .next t ∧ t.slots[i] = s.slots[i]) ∧
    (∃ t u : State, runOps (s.pseudoKeyoff i) s = .next t ∧ t.slots[i].eg.state = .release ∧
      t.slots[i].active = s.slots[i].active ∧ runOps (t.pseudoKeyon i) t = .next u ∧
      u.slots[i].active = true ∧ u.slots[i].eg.state = .attack)

/-! ### Interrupt line and timers -/

/-- R269. -/
def Obligations.MidiNotify : Prop :=
  ∀ s : State,
    exec (.midiNotify false) s = .next { s with midiPending := false, result := .none } ∧
    exec (.midiNotify true) s = .next { s with midiPending := true, irq := true, irqSrc := .midi, result := .none }

/-- R265: what the line is after a TICK or a MIDI_NOTIFY 1, by the pending and enable bits it leaves. -/
def Obligations.IrqEvaluation : Prop :=
  ∀ (i : Instr) (s t : State), ((∃ e, i = .tick e) ∨ i = .midiNotify true) → exec i s = .next t →
    let pend := t.reg 0x28A0 &&& t.reg 0x289C
    if t.midiPending = true then t.irq = true ∧ t.irqSrc = .midi
    else if pend.getLsbD 6 = true then t.irq = true ∧ t.irqSrc = .tima
    else if pend.getLsbD 7 = true then t.irq = true ∧ t.irqSrc = .timb
    else if pend.getLsbD 8 = true then t.irq = true ∧ t.irqSrc = .timc
    else t.irq = s.irq ∧ t.irqSrc = s.irqSrc

/-- The line is deasserted only by SCIRE with a timer bit, a non-zero IRQR or RESET, and asserted only by a TICK or a
MIDI_NOTIFY 1 (R307, R313). -/
def Obligations.LineChanges : Prop :=
  ∀ (i : Instr) (s t : State), RegFile.wf s.regs = true → exec i s = .next t →
    (s.irq = true → t.irq = false →
      (∃ v m, i = .w16Scire v m ∧ maskAdmitted m = true ∧ mergedWord (s.reg 0x28A4) v m &&& 0x1C0 ≠ 0) ∨
      (∃ v m, i = .w16Irqr v m ∧ maskAdmitted m = true ∧ mergedWord (s.reg 0x2D04) v m ≠ 0) ∨ i = .reset) ∧
    (s.irq = false → t.irq = true → (∃ e, i = .tick e) ∨ i = .midiNotify true)

/-- The timers' pending bits: set only by a TICK or a host write of SCIPD, cleared only by SCIRE, a host write of SCIPD or
RESET (R263, R307). -/
def Obligations.PendingBits : Prop :=
  ∀ (i : Instr) (s t : State) (k : Fin 3), i.wf = true → RegFile.wf s.regs = true → exec i s = .next t →
    ((s.reg 0x28A0).getLsbD (6 + k.val) = false → (t.reg 0x28A0).getLsbD (6 + k.val) = true →
      (∃ e, i = .tick e) ∨ ∃ v m, i = .w16Common 0x28A0 v m) ∧
    ((s.reg 0x28A0).getLsbD (6 + k.val) = true → (t.reg 0x28A0).getLsbD (6 + k.val) = false →
      (∃ v m, i = .w16Scire v m) ∨ (∃ v m, i = .w16Common 0x28A0 v m) ∨ i = .reset)

/-- R261: the timers in a TICK. -/
def Obligations.TimersTick : Prop :=
  ∀ (e : List Word) (s t : State), RegFile.wf s.regs = true → exec (.tick e) s = .next t →
    (∀ k : Fin 3,
      let c := s.timCnt[k].toNat
      let w := s.reg (0x2890 + 4 * k.val)
      let n := c + 2 ^ (8 - w.toNat / 256 % 8)
      if c ≤ 0xFF00 then
        (0xFF00 ≤ n → t.timCnt[k] = 0xFFFF ∧ (t.reg 0x28A0).getLsbD (6 + k.val) = true) ∧
        (n < 0xFF00 →
          t.timCnt[k].toNat = n ∧ (t.reg 0x28A0).getLsbD (6 + k.val) = (s.reg 0x28A0).getLsbD (6 + k.val)) ∧
        t.reg (0x2890 + 4 * k.val) = (w &&& 0xFF00) ||| (t.timCnt[k] >>> 8)
      else
        t.timCnt[k] = s.timCnt[k] ∧ t.reg (0x2890 + 4 * k.val) = w ∧
          (t.reg 0x28A0).getLsbD (6 + k.val) = (s.reg 0x28A0).getLsbD (6 + k.val)) ∧
    ∀ b : Nat, b < 6 ∨ 8 < b → (t.reg 0x28A0).getLsbD b = (s.reg 0x28A0).getLsbD b

/-- R264: the period of a timer, over every run of TICKs after a write of its word. -/
def Obligations.TimerPeriod : Prop :=
  ∀ (k : Fin 3) (w : Word) (r s t : State) (ticks : List (List Word)), RegFile.wf r.regs = true →
    exec (.w16Timer k w 0xFFFF) r = .next s → runOps (ticks.map Instr.tick) s = .next t →
      let v := w.toNat % 256
      let p := w.toNat / 256 % 8
      let n := ticks.length
      let period := if v = 255 then 1 else (255 - v) * 2 ^ p
      (n < period →
        t.timCnt[k].toNat = v * 256 + n * 2 ^ (8 - p) ∧ (t.reg (0x2890 + 4 * k.val)).toNat % 256 = v + n / 2 ^ p ∧
          (t.reg 0x28A0).getLsbD (6 + k.val) = (r.reg 0x28A0).getLsbD (6 + k.val)) ∧
      (period ≤ n →
        t.timCnt[k] = 0xFFFF ∧ (t.reg (0x2890 + 4 * k.val)).toNat % 256 = 255 ∧
          (t.reg 0x28A0).getLsbD (6 + k.val) = true)

/-! ### TICK -/

/-- A TICK completes: it returns an s16 pair and one DSP send for every active slot, in slot order, with a value in the
range of R245 where the tables are the reference ones; fader, MIDI input, NOISE table, mark and wave RAM are as before
(R244, R245, R248, R250). -/
def Obligations.TickCompletes : Prop :=
  ∀ (e : List Word) (s : State), s.slotInv →
    ∃ (t : State) (l r : Int) (sends : List (BitVec 4 × Int)), exec (.tick e) s = .next t ∧
      t = { s with
            regs := t.regs
            slots := t.slots
            timCnt := t.timCnt
            irq := t.irq
            irqSrc := t.irqSrc
            result := .tick l r sends
            draws := t.draws } ∧
      (-32768 ≤ l ∧ l ≤ 32767) ∧ (-32768 ≤ r ∧ r ≤ 32767) ∧ s.sameRam t ∧
      sends.map Prod.fst = ((List.finRange 64).filter fun i => s.slots[i].active).map s.isel ∧
      (s.params.tables = Tables.reference → ∀ x ∈ sends, -524288 ≤ x.2 ∧ x.2 ≤ 524272)

/-- What a TICK leaves alone: every inactive or frozen slot with its word 0x00; every register word but the slots' words
0x00, the timers' words and SCIPD; and of a slot's word 0x00 every bit but KYONB (R163, R181, R160, R261). -/
def Obligations.TickFrame : Prop :=
  ∀ (e : List Word) (s t : State), RegFile.wf s.regs = true → exec (.tick e) s = .next t →
    (∀ j : Fin 64, s.runs j = false → t.slots[j] = s.slots[j] ∧ t.reg (j.val * 0x80) = s.reg (j.val * 0x80)) ∧
    (∀ j : Fin 64, t.reg (j.val * 0x80) = s.reg (j.val * 0x80) ∨ t.reg (j.val * 0x80) = s.reg (j.val * 0x80) &&& 0xBFFF) ∧
    ∀ a : Nat, (∀ j : Fin 64, a ≠ j.val * 0x80) → a ∉ [0x2890, 0x2894, 0x2898, 0x28A0] → t.reg a = s.reg a

/-- Every slot's update in a TICK starts from the state before the TICK and reads no other slot: a slot in whose update no
draw is made comes out as its own update alone makes it; and after TICKs of two states that agree on the slot, its 64 words,
the parameters, wave RAM and the NOISE table, whatever they hold elsewhere and whatever the DSP gives, the slot, its words
and its sample agree (R250, R182). That draws are numbered in the order they are made, so that other slots' draws move a
slot's own, is the model's choice (assumption log 7). -/
def Obligations.EachSlotAlone : Prop :=
  ∀ (e : List Word) (s t : State) (j : Fin 64), RegFile.wf s.regs = true → (s.runs j = true → s.slotDrawFree j) →
    exec (.tick e) s = .next t →
      (let u := s.slotRun j s.slots[j]
       if s.runs j = true then
         t.slots[j] = { u.slot with active := !u.stop } ∧
           t.reg (j.val * 0x80) = (if u.stop = true then s.reg (j.val * 0x80) &&& 0xBFFF else s.reg (j.val * 0x80))
       else t.slots[j] = s.slots[j]) ∧
      ∀ (e' : List Word) (s' t' : State), RegFile.wf s'.regs = true → s.agreeOn s' j → exec (.tick e') s' = .next t' →
        t.agreeOn t' j ∧ (s.runs j = true → (s'.slotUpdate j).2 = (s.slotUpdate j).2)

/-- What a TICK returns: the mix of every active slot's sample and of the effect returns, each through its pan table, divided
by 8 and clipped; and a DSP send for every active slot, in slot order (R243, R244, R246, R247, R248, R250), where no draw is
made: that draws are numbered in the order they are made is the model's choice (assumption log 7). -/
def Obligations.TickMix : Prop :=
  ∀ (e : List Word) (s : State), RegFile.wf s.regs = true → s.drawFree →
    let x (j : Fin 64) : Int := (s.slotUpdate j).2
    let sounding := (List.finRange 64).filter fun j => s.slots[j].active
    let slots (table : Nat → Nat → Nat → Nat) : Int :=
      (sounding.map fun j => x j * table (s.tl j) (s.dipan j) (s.disdl j) / 4096).sum
    let returns (table : Nat → Nat → Nat → Nat) : Int :=
      ((List.range 16).map fun n =>
        if s.efsdl n = 0 then 0 else (e.getD n 0).toInt * table 0 (s.efpan n) (s.efsdl n) / 4096).sum
    let out (table : Nat → Nat → Nat → Nat) : Int := max (-32768) (min 32767 ((slots table + returns table) / 8))
    ∃ t : State, exec (.tick e) s = .next t ∧
      t.result =
        .tick (out s.params.lpan) (out s.params.rpan)
          (sounding.map fun j => (s.isel j, x j * s.params.lpan (s.tl j) 0 (s.imxl j) / 1024))

/-- The EG in a TICK, state by state (R155 to R159, R162); in ATTACK with LPSLNK set, by the address after the advance with
the gain `g` of the pitch LFO. What `g` may be where it is drawn is the model's reading (assumption log 24 and 12). -/
def Obligations.TickEnvelope : Prop :=
  ∀ (e : List Word) (s t : State), RegFile.wf s.regs = true → exec (.tick e) s = .next t → ∀ j : Fin 64, s.runs j = true →
    let x := s.slots[j].eg
    let y := t.slots[j].eg
    let unit : Int := 2 ^ s.params.egFrac.bits
    let crossed (v : Int) : Prop := v < (x.dl.toNat + 1) * 32 * unit
    let attack : Prop :=
      y.volume = min (x.volume + x.ar) (1023 * unit) ∧
        (x.volume + x.ar < 1023 * unit ∨ x.d1r = 0 ∨ s.lpslnk j = true → y.state = .attack) ∧
        (1023 * unit ≤ x.volume + x.ar → x.d1r ≠ 0 → s.lpslnk j = false →
          (s.params.skipD1 = .doc → crossed (max 0 (1023 * unit - x.d1r)) → y.state = .decay2) ∧
          (s.params.skipD1 = .doc → ¬crossed (max 0 (1023 * unit - x.d1r)) → y.state = .decay1) ∧
          (s.params.skipD1 = .reference → 1024 * unit ≤ x.d1r → x.d2r ≠ 0 → y.state = .decay2) ∧
          (s.params.skipD1 = .reference → ¬(1024 * unit ≤ x.d1r ∧ x.d2r ≠ 0) → y.state = .decay1))
    let decay1 : Prop :=
      y.volume = max 0 (x.volume - x.d1r) ∧ (crossed y.volume → y.state = .decay2) ∧ (¬crossed y.volume → y.state = .decay1)
    y = { x with state := y.state, volume := y.volume } ∧
    match x.state with
    | .attack =>
      (s.lpslnk j = false → attack) ∧
      (s.lpslnk j = true →
        ∃ g, s.pitchGainIs j g ∧ if s.lsa j ≤ (s.slots[j].advanced g).toNat / 4096 then decay1 else attack)
    | .decay1 => decay1
    | .decay2 => y.state = .decay2 ∧ y.volume = (if s.d2r j = 0 then x.volume else max 0 (x.volume - x.d2r))
    | .release =>
      y.state = .release ∧ y.volume = max 0 (x.volume - x.rr) ∧
        (x.volume ≤ x.rr → t.slots[j].active = false ∧ (t.reg (j.val * 0x80)).getLsbD 14 = false)

/-- In a TICK the volume never falls in ATTACK and never rises in the other states, and the EG's only transitions are
ATTACK to DECAY1 or DECAY2, and DECAY1 to DECAY2 (R164, R150). -/
def Obligations.EnvelopeMonotone : Prop :=
  ∀ (e : List Word) (s t : State) (j : Fin 64), exec (.tick e) s = .next t → s.volumeInv j →
    let x := s.slots[j].eg
    let y := t.slots[j].eg
    (x.state = .attack → y.state = .attack → x.volume ≤ y.volume) ∧
    (x.state ≠ .attack → y.volume ≤ x.volume) ∧
    (x.state, y.state) ∈
      [(EgState.attack, EgState.attack), (.attack, .decay1), (.attack, .decay2), (.decay1, .decay1), (.decay1, .decay2),
        (.decay2, .decay2), (.release, .release)]

/-- Segment lengths over every run of TICKs, for a looping slot (R165): a RELEASE falls by `rr` a TICK and deactivates the
slot when it reaches 0; an ATTACK without loop link rises by `ar` a TICK up to full level. -/
def Obligations.EnvelopeLengths : Prop :=
  ∀ (s t : State) (j : Fin 64) (ticks : List (List Word)), RegFile.wf s.regs = true →
    runOps (ticks.map Instr.tick) s = .next t → s.runs j = true → s.lpctl j = true → s.volumeInv j →
      let x := s.slots[j].eg
      let y := t.slots[j].eg
      let n : Int := ticks.length
      (x.state = .release → 0 < x.volume →
        (n * x.rr < x.volume → t.slots[j].active = true ∧ y.state = .release ∧ y.volume = x.volume - n * x.rr) ∧
        (x.volume ≤ n * x.rr → t.slots[j].active = false ∧ y.state = .release ∧ y.volume = 0)) ∧
      (x.state = .attack → s.lpslnk j = false →
        (x.volume + n * x.ar < 1023 * 2 ^ s.params.egFrac.bits → y.state = .attack ∧ y.volume = x.volume + n * x.ar) ∧
        (1023 * 2 ^ s.params.egFrac.bits ≤ x.volume + n * x.ar → 0 < n →
          x.volume + (n - 1) * x.ar < 1023 * 2 ^ s.params.egFrac.bits → y.volume = 1023 * 2 ^ s.params.egFrac.bits))

/-- The address in a TICK, with the gain `g` of the pitch LFO: the advance, the wrap of a looping slot whose next index has
come to LEA, and the stop of a slot without loop whose next index has come to LSA and LEA; a slot becomes inactive in no
other way than this stop or the end of a RELEASE, and then its KYONB reads 0 (R189, R194, R195, R196, R199, R159, R160). What `g`
may be where it is drawn is the model's reading (assumption log 24 and 12). -/
def Obligations.TickAddress : Prop :=
  ∀ (e : List Word) (s t : State) (j : Fin 64), RegFile.wf s.regs = true → exec (.tick e) s = .next t →
    s.runs j = true →
      let x := s.slots[j]
      let y := t.slots[j]
      let back : U32 := BitVec.ofNat 32 (s.lsa j * 4096) - BitVec.ofNat 32 (s.lea j * 4096)
      ∃ g, s.pitchGainIs j g ∧
        y.prvAddr = x.curAddr ∧ y.step = x.step ∧
        (if s.lpctl j = true ∧ s.lea j ≤ x.nextIndex g then
          y.curAddr = x.advanced g + back ∧ y.nxtAddr = x.advanced g + 0x1000 + back
        else y.curAddr = x.advanced g ∧ y.nxtAddr = x.advanced g + 0x1000) ∧
        (y.active = false ↔
          (s.lpctl j = false ∧ s.lsa j ≤ x.nextIndex g ∧ s.lea j ≤ x.nextIndex g) ∨
            (x.eg.state = .release ∧ x.eg.volume ≤ x.eg.rr)) ∧
        (y.active = false → (t.reg (j.val * 0x80)).getLsbD 14 = false)

/-- The ADPCM decoder in a TICK: it decodes every nibble from its cursor up to the next sample's index; a wrap puts the
cursor at nibble LSA, with the cached predictor when PCMS = 2 and the running one when PCMS = 3; a decoder never initialised
stays as it is (R186, R187, R196, R197). The predictor is stated where the bytes read lie below `RAM_SIZE`: past it a byte
is a draw (R61). A PCM slot's decoder stays as it is (R183, R187, R196). What the pitch LFO's gain `g` may be where it
is drawn is the model's reading (assumption log 24 and 12). -/
def Obligations.AdpcmTick : Prop :=
  ∀ (e : List Word) (s t : State) (j : Fin 64), RegFile.wf s.regs = true → exec (.tick e) s = .next t →
    s.runs j = true →
      let x := s.slots[j].ad
      let y := t.slots[j].ad
      let first := x.step.toNat
      let next := s.slots[j].nxtAddr.toNat / 4096
      let count := next - first
      let start := s.slots[j].streamStart
      let p := s.decoded start first count { sample := x.sample, quant := x.quant }
      (s.pcms j < 2 → y = x) ∧
      (2 ≤ s.pcms j → ∃ g, s.pitchGainIs j g ∧
        let wraps := s.lpctl j = true ∧ s.lea j ≤ s.slots[j].nextIndex g
        y.lpSample = x.lpSample ∧ y.lpQuant = x.lpQuant ∧
        (¬wraps → x.quant = 0 → y = x) ∧
        (¬wraps → x.quant ≠ 0 →
          y.step.toNat = first + count ∧ y.base.toNat % 0x800000 = (start + (first + count) / 2) % 0x800000 ∧
            (s.sampleInRam j next → y.sample = p.sample ∧ y.quant = p.quant)) ∧
        (wraps →
          y.step.toNat = s.lsa j ∧ y.base.toNat = s.sa j + s.lsa j / 2 ∧
            (s.pcms j = 2 → y.sample = x.lpSample ∧ y.quant = x.lpQuant) ∧
            (s.pcms j = 3 → x.quant ≠ 0 → s.sampleInRam j next → y.sample = p.sample ∧ y.quant = p.quant) ∧
            (s.pcms j = 3 → x.quant = 0 → y.sample = x.sample ∧ y.quant = 0)))

/-- A slot's output. A frozen slot gives 0 and changes nothing (R181). Any other, in every format and with its LFOs, gives the
interpolation of the two samples at its address, scaled by the amplitude LFO's gain `h`, and then linearly in ATTACK and by
EG_TABLE in the other states (R183 to R188, R202, R228, R161). A sample is stated where the bytes read for it lie below
`RAM_SIZE`: past it a byte is a draw (R61). An ADPCM slot's two samples are the predictors after as many nibbles as their
indices; where the index of the current one lies before the decoder's cursor or past the next one, the current one is the
predictor before the walk; a decoder never initialised gives 0. What the gains `g` and `h` may be where they are drawn is the
model's reading (assumption log 24 and 12). -/
def Obligations.SlotOutput : Prop :=
  ∀ (s : State) (j : Fin 64),
    (s.ssctl j = true → s.slotUpdate j = (s, 0)) ∧
    (s.ssctl j = false →
      let x := s.slots[j]
      let y := (s.slotUpdate j).1.slots[j]
      let c := x.curAddr.toNat / 4096
      let n := x.nxtAddr.toNat / 4096
      let f : Int := (x.curAddr.toNat % 4096 : Nat)
      let first := x.ad.step.toNat
      let nibbles (k : Nat) : Int :=
        if x.ad.quant = 0 then 0
        else (s.decoded x.streamStart first (k - first) { sample := x.ad.sample, quant := x.ad.quant }).sample
      let sample (k : Nat) : Int :=
        if s.pcms j = 0 then s.sample16 (s.sa j + 2 * k) else if s.pcms j = 1 then s.sample8 (s.sa j + k) else nibbles k
      let level := y.eg.volume / 2 ^ s.params.egFrac.bits
      ∃ (g h : Nat) (cur nxt : Int), s.pitchGainIs j g ∧ s.ampGainIs j h ∧
        (if 2 ≤ s.pcms j ∧ n < c then cur = nibbles first else s.sampleInRam j c → cur = sample c) ∧
        (s.sampleInRam j n → nxt = sample n) ∧
        let z := (cur * (4096 - f) + nxt * f) / 4096
        let linked := s.lpslnk j = true ∧ s.lsa j ≤ (x.advanced g).toNat / 4096
        (x.eg.state = .attack → ¬linked →
          (s.slotUpdate j).2 = z * h / 4096 * (if x.eg.hold = true then 4092 else 4 * level) / 4096) ∧
        (x.eg.state ≠ .attack ∨ linked → (s.slotUpdate j).2 = z * h / 4096 * s.params.egEntry level.toNat / 4096))

/-- R191: one step of the decoder, with any tables; R192: the reference tables; R193: what a step does with them. -/
def Obligations.AdpcmStepProperties : Prop :=
  (∀ (t : Params) (p : Predictor) (d : Nat), d < 16 →
    (adpcmStep t p d).sample = max (-32768) (min 32767 (p.sample + (p.quant * t.quantMul d).tdiv 8)) ∧
    (adpcmStep t p d).quant = max 0x7F (min 0x6000 (p.quant * t.quantScale (d % 8) / 256))) ∧
  ∀ t : Params, t.tables.quantMul = .reference → t.tables.quantScale = .reference →
    (∀ d, d < 16 → t.quantMul d = (2 * (d % 8 : Nat) + 1 : Int) * (if d < 8 then 1 else -1)) ∧
    (List.range 8).map t.quantScale = [230, 230, 230, 230, 307, 409, 512, 614] ∧
    (∀ (p : Predictor) (d : Nat), d < 16 → 0x7F ≤ p.quant → p.quant ≤ 0x6000 →
      let r := adpcmStep t p d
      (0x7F ≤ r.quant ∧ r.quant ≤ 0x6000) ∧ (-32768 ≤ r.sample ∧ r.sample ≤ 32767) ∧
      (d % 8 < 4 → r.quant = max (p.quant * 230 / 256) 0x7F) ∧
      (d % 8 = 4 → r.quant = min (p.quant * 307 / 256) 0x6000) ∧
      (d % 8 = 5 → r.quant = min (p.quant * 409 / 256) 0x6000) ∧
      (d % 8 = 6 → r.quant = min (p.quant * 2) 0x6000) ∧
      (d % 8 = 7 → r.quant = min (p.quant * 614 / 256) 0x6000) ∧
      (∃ raw : Int, r.sample = max (-32768) (min 32767 raw) ∧ -46080 ≤ raw - p.sample ∧ raw - p.sample ≤ 46080)) ∧
    adpcmStep t { sample := 0, quant := 0x7F } 0 = { sample := 15, quant := 0x7F } ∧
    adpcmStep t { sample := 0, quant := 0x7F } 7 = { sample := 238, quant := 304 } ∧
    adpcmStep t { sample := 0, quant := 0x7F } 8 = { sample := -15, quant := 0x7F } ∧
    adpcmStep t { sample := 0, quant := 0x7F } 15 = { sample := -238, quant := 304 }

/-- R188: the interpolation is the floor of the weighted mean, and lies between its two samples. -/
def Obligations.InterpolationBetween : Prop :=
  ∀ (c : U32) (cur nxt : Int),
    let f : Int := (c.toNat % 4096 : Nat)
    let x := interpolate c cur nxt
    x * 4096 ≤ cur * (4096 - f) + nxt * f ∧ cur * (4096 - f) + nxt * f < (x + 1) * 4096 ∧
      min cur nxt ≤ x ∧ x ≤ max cur nxt ∧
      (-32768 ≤ min cur nxt → max cur nxt ≤ 32767 → -32768 ≤ x ∧ x ≤ 32767)

/-- The loop bounds of R200, over every run of TICKs: a looping slot with its pitch LFO off whose step is at most the loop
length never has a next index of LEA or above after a TICK, and once that index has come to LSA it never falls below. -/
def Obligations.LoopBounds : Prop :=
  ∀ (s t : State) (j : Fin 64) (ticks : List (List Word)), RegFile.wf s.regs = true →
    runOps (ticks.map Instr.tick) s = .next t → s.runs j = true → s.lpctl j = true → s.plfos j = 0 →
    s.lsa j < s.lea j → s.slots[j].step.toNat ≤ (s.lea j - s.lsa j) * 4096 →
    s.slots[j].nxtAddr = s.slots[j].curAddr + 0x1000 → s.slots[j].nxtAddr.toNat / 4096 < s.lea j →
      t.slots[j].nxtAddr = t.slots[j].curAddr + 0x1000 ∧ t.slots[j].nxtAddr.toNat / 4096 < s.lea j ∧
      (s.lsa j ≤ s.slots[j].nxtAddr.toNat / 4096 → s.lsa j ≤ t.slots[j].nxtAddr.toNat / 4096) ∧
      (s.lea j ≤ s.slots[j].nextIndex 4096 → ticks ≠ [] → s.lsa j ≤ t.slots[j].nxtAddr.toNat / 4096)

/-- What one use of an LFO gives. In use, its phase advances by its step, and the advanced phase's bits 15:8 index the
waveform; the effective step is `step * g >> 12` with `g = PSCALES[depth][P_wave[phase >> 8] + 128] << 4`, and a draw for the
entry where P_wave is 128; the sample is `x * h >> 12` with `h = ASCALES[depth][A_wave[phase >> 8]] << 4`. Out of use, nothing moves
(R189, R227, R228, R229). The waveforms with the reference tables, and the NOISE table (R222). With the reference tables the
amplitude LFO never amplifies, and the pitch LFO changes the step by a factor of 192/256 to 339/256, outside the noise
overflow (R223, R224, R231). That a waveform never computed draws the entry, and which draw it is, are the model's choices
(assumption log 12 and 7); that R229's draw is the entry read, which is then shifted, is its reading (assumption log 24). -/
def Obligations.LfoGains : Prop :=
  (∀ (s : State) (i : Fin 64) (x : Slot) (d : Nat),
    let l := x.plfo
    let phase := (l.phase.toNat + l.phaseStep.toNat) % 65536
    let u := s.pitchUse i x d
    let gains (g : Nat) : Prop := u.stepEff = x.step.toNat * g / 4096
    if s.plfos i = 0 then u.stepEff = x.step.toNat ∧ u.plfo = l ∧ u.draws = d
    else
      u.plfo = { l with phase := u.plfo.phase } ∧ u.plfo.phase.toNat = phase ∧
      match s.pitchWave l.wave (Fin.ofNat 256 (phase / 256)) with
      | some v =>
        if v = 128 then gains ((Config.drawScale d).toNat * 16) ∧ u.draws = d + 1
        else gains (s.params.pscales l.depth (v + 128).toNat * 16) ∧ u.draws = d
      | none => gains ((Config.drawScale d).toNat * 16) ∧ u.draws = d + 1) ∧
  (∀ (s : State) (i : Fin 64) (l : Lfo) (x : Int) (d : Nat),
    let phase := (l.phase.toNat + l.phaseStep.toNat) % 65536
    let u := s.ampUse i l x d
    if s.alfos i = 0 then u.x = x ∧ u.alfo = l ∧ u.draws = d
    else
      u.alfo = { l with phase := u.alfo.phase } ∧ u.alfo.phase.toNat = phase ∧
      match s.ampWave l.wave (Fin.ofNat 256 (phase / 256)) with
      | some v => u.x = x * (s.params.ascales l.depth v * 16) / 4096 ∧ u.draws = d
      | none => u.x = x * ((Config.drawScale d).toNat * 16) / 4096 ∧ u.draws = d + 1) ∧
  (∀ (s : State) (n : Fin 256),
    s.pitchWave .noise n = some (128 - (s.noise[n].toNat : Int)) ∧ s.ampWave .noise n = some s.noise[n].toNat) ∧
  (∀ (s : State) (n : Fin 256), s.params.tables = Tables.reference →
    let k : Int := n.val
    s.pitchWave .saw n = some (if k < 128 then k else k - 256) ∧
    s.pitchWave .square n = some (if k < 128 then 127 else -128) ∧
    s.pitchWave .tri n =
      some (if k < 64 then 2 * k else if k < 128 then 255 - 2 * k else if k < 192 then 256 - 2 * k else 2 * k - 511) ∧
    s.ampWave .saw n = some (255 - n.val) ∧
    s.ampWave .square n = some (if n.val < 128 then 255 else 0) ∧
    s.ampWave .tri n = some (if n.val < 128 then 255 - 2 * n.val else 2 * n.val - 256)) ∧
  (∀ (p : Params) (d : BitVec 3) (n : Nat), p.tables = Tables.reference → n < 256 →
    (192 ≤ p.pscales d n ∧ p.pscales d n ≤ 339) ∧ (16 ≤ p.ascales d n ∧ p.ascales d n ≤ 256)) ∧
  (∀ (s : State) (i : Fin 64) (l : Lfo) (x : Int) (d : Nat), s.params.tables = Tables.reference → l.wave ≠ .none →
    let y := (s.ampUse i l x d).x
    (0 ≤ x → 0 ≤ y ∧ y ≤ x) ∧ (x ≤ 0 → x ≤ y ∧ y ≤ 0)) ∧
  (∀ (s : State) (i : Fin 64) (x : Slot) (d : Nat), s.params.tables = Tables.reference → x.plfo.wave ≠ .none →
    (x.plfo.wave = .noise → ∀ n : Fin 256, s.noise[n] ≠ 0) → s.plfos i ≠ 0 →
      let y := (s.pitchUse i x d).stepEff
      y * 256 ≤ x.step.toNat * 339 ∧ x.step.toNat * 192 < (y + 1) * 256)

/-- The LFO phases: a TICK advances a slot's phase by its latched step when the slot runs and that LFO's depth field is not
0; RESET sets the phases to 0; nothing else changes one, key-on included (R226, R227, R228). -/
def Obligations.LfoPhases : Prop :=
  ∀ (i : Instr) (s t : State) (j : Fin 64), exec i s = .next t →
    ((∀ e, i ≠ .tick e) → i ≠ .reset →
      t.slots[j].plfo.phase = s.slots[j].plfo.phase ∧ t.slots[j].alfo.phase = s.slots[j].alfo.phase) ∧
    ((∃ e, i = .tick e) →
      t.slots[j].plfo.phase.toNat =
        (if s.runs j = true ∧ s.plfos j ≠ 0 then
          (s.slots[j].plfo.phase.toNat + s.slots[j].plfo.phaseStep.toNat) % 65536
        else s.slots[j].plfo.phase.toNat) ∧
      t.slots[j].alfo.phase.toNat =
        (if s.runs j = true ∧ s.alfos j ≠ 0 then
          (s.slots[j].alfo.phase.toNat + s.slots[j].alfo.phaseStep.toNat) % 65536
        else s.slots[j].alfo.phase.toNat)) ∧
    (i = .reset → t.slots[j].plfo.phase = 0 ∧ t.slots[j].alfo.phase = 0)

/-- The unity paths of R251, with the reference tables: one active slot at full level and nothing else is heard at half
amplitude, and the side its pan mutes is silent. -/
def Obligations.UnityPaths : Prop :=
  ∀ (e : List Word) (s : State) (j : Fin 64), s.params.tables = Tables.reference → s.slotInv → s.slots[j].active = true →
    (∀ k : Fin 64, k ≠ j → s.slots[k].active = false) → s.tl j = 0 → s.disdl j = 15 → (∀ n, n < 16 → s.efsdl n = 0) →
      ∃ (t : State) (sends : List (BitVec 4 × Int)), exec (.tick e) s = .next t ∧
        (s.dipan j = 0 → t.result = .tick ((s.slotUpdate j).2 / 2) ((s.slotUpdate j).2 / 2) sends) ∧
        (s.dipan j = 0x0F → t.result = .tick 0 ((s.slotUpdate j).2 / 2) sends)

/-- A TICK with no active slot: the effect returns 0 to 15 whose EFSDL is not 0 are the whole mix, and no slot, no send and
no draw is made (R247, R248, R250). -/
def Obligations.EffectReturns : Prop :=
  ∀ (e : List Word) (s : State), (∀ j : Fin 64, s.slots[j].active = false) →
    let part (table : Nat → Nat → Nat → Nat) (n : Nat) : Int :=
      if s.efsdl n = 0 then 0 else (e.getD n 0).toInt * table 0 (s.efpan n) (s.efsdl n) / 4096
    let out (table : Nat → Nat → Nat → Nat) : Int :=
      max (-32768) (min 32767 (((List.range 16).map (part table)).sum / 8))
    ∃ t : State, exec (.tick e) s = .next t ∧ t.result = .tick (out s.params.lpan) (out s.params.rpan) [] ∧
      t.slots = s.slots ∧ t.draws = s.draws ∧ s.sameRam t

/-- R332: after a RESET every slot is idle; a TICK returns silence and no send whatever the DSP gives and whatever wave RAM
holds, and changes nothing, the timers included; and FADE_ADVANCE passes its sample and counts it. -/
def Obligations.SilentAfterReset : Prop :=
  ∀ (r s : State) (e : List Word) (m : Memory) (x y : Word), exec .reset r = .next s →
    (∀ j : Fin 64, s.slots[j].active = false ∧ s.slots[j].eg.state = .release) ∧
    exec (.tick e) { s with ram := m } = .next { s with ram := m, result := .tick 0 0 [] } ∧
    exec (.fadeAdvance x y) s =
      .next { s with fade := { s.fade with counter := s.fade.counter + 1 }, result := .stereo x.toInt y.toInt }

/-! ### Fade -/

/-- FADE_CONFIGURE (R281, R282): a negative, infinite or NaN operand is refused; otherwise the indices FADE_CONFIGURE sets, for operands
of the values `p` and `q` seconds. That the operands are f64 patterns, that -0.0 is zero and that the product is exact are the
model's readings (assumption log 21, 13 and 14). -/
def Obligations.FadeConfigure : Prop :=
  (∀ (a b : BitVec 64) (s : State), badSeconds a = true ∨ badSeconds b = true →
    exec (.fadeConfigure a b) s = .next { s with refused := true, result := .refused .badFadeOperand }) ∧
  ∀ (a b : BitVec 64) (p q : ℚ) (s : State), f64Value a = some p → f64Value b = some q → 0 ≤ p → 0 ≤ q →
    ∃ t : State, exec (.fadeConfigure a b) s = .next t ∧ t = { s with fade := t.fade, result := .none } ∧ s.sameRam t ∧
      t.fade.counter = s.fade.counter ∧ t.fade.done = false ∧
      (p = 0 → t.fade.enabled = false ∧ t.fade.beginAt = 0xFFFFFFFF ∧ t.fade.endAt = 0xFFFFFFFF) ∧
      (p ≠ 0 →
        t.fade.enabled = true ∧
        t.fade.beginAt.toNat = min ⌊p * 44100 + 1 / 2⌋₊ 0xFFFFFFFF ∧
        t.fade.endAt.toNat = min (t.fade.beginAt.toNat + ⌊q * 44100 + 1 / 2⌋₊) 0xFFFFFFFF)

/-- R283 and R284, branch by branch. -/
def Obligations.FadeAdvance : Prop :=
  ∀ (l r : Word) (s : State),
    let f := s.fade
    let c := f.counter.toNat
    let b := f.beginAt.toNat
    let z := f.endAt.toNat
    let k : Int := 256 - (256 * (c - b) / (z - b) : Nat)
    ∃ t : State, exec (.fadeAdvance l r) s = .next t ∧ t = { s with fade := t.fade, result := t.result } ∧ s.sameRam t ∧
      t.fade = { f with counter := f.counter + 1, done := t.fade.done } ∧
      (f.enabled = false → t.result = .stereo l.toInt r.toInt ∧ t.fade.done = f.done) ∧
      (f.enabled = true → f.done = true ∨ z ≤ c → t.result = .stereo 0 0 ∧ t.fade.done = true) ∧
      (f.enabled = true → f.done = false → c < z → b ≤ c →
        t.result = .stereo (l.toInt * k / 256) (r.toInt * k / 256) ∧ t.fade.done = false) ∧
      (f.enabled = true → f.done = false → c < z → c < b →
        t.result = .stereo l.toInt r.toInt ∧ t.fade.done = false)

/-- R289: the fader never amplifies and never changes a sign, and falls from 256 to at least 1 along the ramp. -/
def Obligations.FadeBounds : Prop :=
  (∀ (l r : Word) (s t : State), exec (.fadeAdvance l r) s = .next t →
    ∃ x y : Int, t.result = .stereo x y ∧
      (0 ≤ l.toInt → 0 ≤ x ∧ x ≤ l.toInt) ∧ (l.toInt < 0 → l.toInt ≤ x ∧ x ≤ 0) ∧
      (0 ≤ r.toInt → 0 ≤ y ∧ y ≤ r.toInt) ∧ (r.toInt < 0 → r.toInt ≤ y ∧ y ≤ 0)) ∧
  (∀ f g : Fader, f.beginAt = g.beginAt → f.endAt = g.endAt → f.beginAt.toNat ≤ f.counter.toNat →
    f.counter.toNat ≤ g.counter.toNat → g.counter.toNat < g.endAt.toNat →
      1 ≤ g.ramp ∧ g.ramp ≤ f.ramp ∧ f.ramp ≤ 256)

/-- A song over every run of FADE_ADVANCE from an enabled fade with the counter at 0: the counter counts the samples, the
samples before begin pass, those from end on are silent, and `done` is set exactly by the one whose counter is end (R285, R288). -/
def Obligations.FadeSong : Prop :=
  ∀ (s t u : State) (samples : List (Word × Word)) (l r : Word), s.fade.enabled = true → s.fade.done = false →
    s.fade.counter = 0 → s.fade.beginAt.toNat ≤ s.fade.endAt.toNat → samples.length < 0xFFFFFFFF →
    runOps (samples.map fun x => .fadeAdvance x.1 x.2) s = .next t → exec (.fadeAdvance l r) t = .next u →
      let n := samples.length
      t.fade.counter.toNat = n ∧ t.fade.beginAt = s.fade.beginAt ∧ t.fade.endAt = s.fade.endAt ∧
      (t.fade.done = true ↔ s.fade.endAt.toNat < n) ∧
      (n < s.fade.beginAt.toNat → u.result = .stereo l.toInt r.toInt) ∧
      (s.fade.endAt.toNat ≤ n → u.result = .stereo 0 0) ∧
      (t.fade.done = false → (u.fade.done = true ↔ n = s.fade.endAt.toNat))

/-- R286 and R287: the counter and the total; the total of a disabled fade is 0xFFFFFFFF. -/
def Obligations.FadeCounts : Prop :=
  ∀ s : State,
    exec .fadeCount s = .next { s with result := .count s.fade.counter } ∧
    exec .fadeTotal s = .next { s with result := .count s.fade.endAt } ∧
    (s.fadeInv → s.fade.enabled = false → exec .fadeTotal s = .next { s with result := .count 0xFFFFFFFF })

/-- Chip and fader do not interfere (R280, 46_fade.md's introduction): an operation other than RESET that is no fade
operation does the same whatever the fader holds, with the same draws, and keeps the fader; a fade operation changes the
fader, its result and the mark alone. That two runs from one draw counter make the same draws is the model's choice
(assumption log 7). -/
def Obligations.FadeNoninterference : Prop :=
  (∀ (i : Instr) (s t : State) (f : Fader), (∀ a b, i ≠ .fadeConfigure a b) → (∀ l r, i ≠ .fadeAdvance l r) →
    i ≠ .fadeCount → i ≠ .fadeTotal → i ≠ .reset → exec i s = .next t →
      t.fade = s.fade ∧ exec i { s with fade := f } = .next { t with fade := f }) ∧
  (∀ (i : Instr) (s t : State),
    ((∃ a b, i = .fadeConfigure a b) ∨ (∃ l r, i = .fadeAdvance l r) ∨ i = .fadeCount ∨ i = .fadeTotal) →
      exec i s = .next t → t = { s with fade := t.fade, result := t.result, refused := t.refused })

/-! ### Reset -/

/-- R330: what RESET leaves, and what it leaves alone; the NOISE table is a draw, so nothing is said of its entries. -/
def Obligations.Reset : Prop :=
  ∀ s : State, ∃ t : State, exec .reset s = .next t ∧
    t = { s with
          regs := t.regs
          slots := t.slots
          timCnt := t.timCnt
          irq := false
          irqSrc := .none
          midiPending := false
          fade := { counter := 0, beginAt := 0xFFFFFFFF, endAt := 0xFFFFFFFF, enabled := false, done := false }
          noise := t.noise
          result := .none
          draws := t.draws } ∧
    s.sameRam t ∧ (∀ a, t.reg a = 0) ∧ (∀ k : Fin 3, t.timCnt[k] = 0xFFFF) ∧
    ∀ j : Fin 64,
      t.slots[j] =
        { active := false
          lpend := false
          curAddr := 0
          nxtAddr := 0
          prvAddr := 0
          step := 0
          eg := { state := .release, volume := 0, ar := 0, d1r := 0, d2r := 0, rr := 0, dl := 0, hold := false }
          ad := { sample := 0, quant := 0, step := 0, base := 0, lpSample := 0, lpQuant := 0 }
          plfo := { phase := 0, phaseStep := 0, wave := .none, depth := 0 }
          alfo := { phase := 0, phaseStep := 0, wave := .none, depth := 0 } }

/-- The initial state is what RESET produces, unmarked (R331), but for the NOISE table, which each RESET draws anew; and it
meets every invariant. Its parameters and its empty wave RAM are the model's choice (assumption log 6 and 9). -/
def Obligations.InitialState : Prop :=
  (∀ t : State, exec .reset State.reset = .next t →
    { t with noise := State.reset.noise, draws := State.reset.draws } = State.reset) ∧
  State.reset.refused = false ∧ State.reset.reg 0x289C = 0 ∧
  State.reset.storageInv ∧ State.reset.kyonexInv ∧ State.reset.slotInv ∧ State.reset.timerInv ∧ State.reset.fadeInv ∧
    State.reset.irqInv

/-! ### Invariants -/

/-- Every step keeps the stores in canonical form, the register file on the words that the block stores, and wave RAM below
`RAM_SIZE` (R22, R60). That both stores are lists in canonical form is the model's choice (assumption log 9 and 17). -/
def Obligations.StepKeepsStorage : Prop := ∀ s t : State, s.storageInv → step s = .next t → t.storageInv

/-- Every step keeps what holds of every slot: KYONEX reads 0, the ranges of the envelope and of the ADPCM decoder, the next
address one sample after the current one, and the latched values that follow their words (R24, R33, R34, R35, R36, R225). -/
def Obligations.StepKeepsSlots : Prop :=
  ∀ s t : State, s.storageInv → s.kyonexInv → s.slotInv → step s = .next t → t.kyonexInv ∧ t.slotInv

/-- Every step keeps what holds of the timers, the fader and the interrupt line (R38, R261, R262, R281, R265). -/
def Obligations.StepKeepsTimersFadeLine : Prop :=
  ∀ s t : State, s.storageInv → s.timerInv → s.fadeInv → s.irqInv → step s = .next t →
    t.timerInv ∧ t.fadeInv ∧ t.irqInv
end

