-- ==== Sys2Proof/Laws/Cells.lean ====
section
/-! SUPPORT. The sparse storage of the register file and of wave RAM: read after write, and the canonical form. -/

namespace Sys2Proof.Machine

variable {n : Nat}

@[simp] theorem cellsRead_nil (a : Nat) : cellsRead ([] : List (Nat × BitVec n)) a = 0 := rfl

theorem cellsRead_cons (b : Nat) (w : BitVec n) (rest : List (Nat × BitVec n)) (a : Nat) :
    cellsRead ((b, w) :: rest) a = if a = b then w else cellsRead rest a := rfl

/-- A write leaves every other address as it was, in any list. -/
theorem cellsRead_write_ne (c : List (Nat × BitVec n)) (a : Nat) (v : BitVec n) {x : Nat} (h : x ≠ a) :
    cellsRead (cellsWrite c a v) x = cellsRead c x := by
  induction c with
  | nil => unfold cellsWrite; split <;> simp [cellsRead_cons, h]
  | cons e rest ih =>
    obtain ⟨b, w⟩ := e
    unfold cellsWrite
    repeat' split
    all_goals simp_all [cellsRead_cons]

theorem cellsWfFrom_mono {lo lo' : Nat} (h : lo' ≤ lo) :
    ∀ {c : List (Nat × BitVec n)}, cellsWfFrom lo c = true → cellsWfFrom lo' c = true
  | [], _ => rfl
  | (b, w) :: rest, hc => by
    simp only [cellsWfFrom, Bool.and_eq_true, decide_eq_true_eq] at hc ⊢
    exact ⟨⟨le_trans h hc.1.1, hc.1.2⟩, hc.2⟩

/-- In canonical form nothing is listed below the bound. -/
theorem cellsRead_of_lt : ∀ {c : List (Nat × BitVec n)} {lo a : Nat}, cellsWfFrom lo c = true → a < lo → cellsRead c a = 0
  | [], _, _, _, _ => rfl
  | (b, w) :: rest, lo, a, hc, h => by
    simp only [cellsWfFrom, Bool.and_eq_true, decide_eq_true_eq] at hc
    rw [cellsRead_cons, if_neg (by omega)]
    exact cellsRead_of_lt hc.2 (by omega)

theorem cellsRead_write_self_from : ∀ {c : List (Nat × BitVec n)} {lo : Nat} (a : Nat) (v : BitVec n),
    cellsWfFrom lo c = true → cellsRead (cellsWrite c a v) a = v
  | [], _, a, v, _ => by unfold cellsWrite; split <;> simp_all [cellsRead_cons]
  | (b, w) :: rest, lo, a, v, hc => by
    simp only [cellsWfFrom, Bool.and_eq_true, decide_eq_true_eq] at hc
    unfold cellsWrite
    split
    · rename_i hlt
      split
      · rename_i hv
        rw [cellsRead_cons, if_neg (by omega), hv]
        exact cellsRead_of_lt hc.2 (by omega)
      · simp [cellsRead_cons]
    · split
      · rename_i hab
        split
        · rename_i hv
          rw [hv]
          exact cellsRead_of_lt hc.2 (by omega)
        · simp [cellsRead_cons]
      · rename_i hab
        rw [cellsRead_cons, if_neg hab]
        exact cellsRead_write_self_from a v hc.2

/-- A read after a write to the same address gives the value written, in canonical form. -/
theorem cellsRead_write_self {c : List (Nat × BitVec n)} (a : Nat) (v : BitVec n) (hc : cellsWf c = true) :
    cellsRead (cellsWrite c a v) a = v :=
  cellsRead_write_self_from a v hc

theorem cellsWrite_wf_from : ∀ {c : List (Nat × BitVec n)} {lo : Nat} {a : Nat} (v : BitVec n),
    cellsWfFrom lo c = true → lo ≤ a → cellsWfFrom lo (cellsWrite c a v) = true
  | [], _, a, v, _, h => by unfold cellsWrite; split <;> simp_all [cellsWfFrom]
  | (b, w) :: rest, lo, a, v, hc, h => by
    have hc' := hc
    simp only [cellsWfFrom, Bool.and_eq_true, decide_eq_true_eq] at hc
    unfold cellsWrite
    split
    · split
      · exact hc'
      · rename_i hlt hv
        simp only [cellsWfFrom, Bool.and_eq_true, decide_eq_true_eq]
        exact ⟨⟨h, by simpa using hv⟩, ⟨⟨by omega, hc.1.2⟩, hc.2⟩⟩
    · split
      · rename_i hab
        split
        · exact cellsWfFrom_mono (by omega) hc.2
        · rename_i hv
          simp only [cellsWfFrom, Bool.and_eq_true, decide_eq_true_eq]
          exact ⟨⟨h, by simpa using hv⟩, by rw [hab]; exact hc.2⟩
      · rename_i h1 h2
        simp only [cellsWfFrom, Bool.and_eq_true, decide_eq_true_eq]
        exact ⟨hc.1, cellsWrite_wf_from v hc.2 (by omega)⟩

/-- A write keeps the canonical form. -/
theorem cellsWrite_wf {c : List (Nat × BitVec n)} (a : Nat) (v : BitVec n) (hc : cellsWf c = true) :
    cellsWf (cellsWrite c a v) = true :=
  cellsWrite_wf_from v hc (Nat.zero_le a)

/-- What a write may list: the address written, and what was listed before. -/
theorem mem_cellsWrite {c : List (Nat × BitVec n)} {a : Nat} {v : BitVec n} {e : Nat × BitVec n}
    (h : e ∈ cellsWrite c a v) : e.1 = a ∨ e ∈ c := by
  induction c with
  | nil => unfold cellsWrite at h; split at h <;> simp_all
  | cons d rest ih =>
    obtain ⟨b, w⟩ := d
    unfold cellsWrite at h
    repeat' split at h
    all_goals simp_all
    all_goals grind

theorem cells_ext_from : ∀ {c d : List (Nat × BitVec n)} {lo : Nat}, cellsWfFrom lo c = true → cellsWfFrom lo d = true →
    (∀ a, cellsRead c a = cellsRead d a) → c = d
  | [], [], _, _, _, _ => rfl
  | [], (b, w) :: rest, _, _, hd, h => by
    simp only [cellsWfFrom, Bool.and_eq_true, decide_eq_true_eq] at hd
    have := h b
    simp_all [cellsRead_cons]
  | (b, w) :: rest, [], _, hc, _, h => by
    simp only [cellsWfFrom, Bool.and_eq_true, decide_eq_true_eq] at hc
    have := h b
    simp_all [cellsRead_cons]
  | (b, w) :: rest, (b', w') :: rest', lo, hc, hd, h => by
    simp only [cellsWfFrom, Bool.and_eq_true, decide_eq_true_eq, bne_iff_ne, ne_eq] at hc hd
    have hb : b = b' := by
      rcases lt_trichotomy b b' with hlt | heq | hgt
      · have := h b
        rw [cellsRead_cons, if_pos rfl, cellsRead_cons, if_neg (by omega), cellsRead_of_lt hd.2 (by omega)] at this
        exact absurd this hc.1.2
      · exact heq
      · have := h b'
        rw [cellsRead_cons, if_neg (by omega), cellsRead_cons, if_pos rfl, cellsRead_of_lt hc.2 (by omega)] at this
        exact absurd this.symm hd.1.2
    subst hb
    have hw : w = w' := by have := h b; simpa [cellsRead_cons] using this
    subst hw
    rw [cells_ext_from hc.2 hd.2]
    intro a
    have ha := h a
    rw [cellsRead_cons, cellsRead_cons] at ha
    split at ha
    · rename_i hab
      rw [cellsRead_of_lt hc.2 (by omega), cellsRead_of_lt hd.2 (by omega)]
    · exact ha

/-- Equal contents in canonical form are equal data. -/
theorem cells_ext {c d : List (Nat × BitVec n)} (hc : cellsWf c = true) (hd : cellsWf d = true)
    (h : ∀ a, cellsRead c a = cellsRead d a) : c = d :=
  cells_ext_from hc hd h

/-- What a write leaves at every address, in canonical form. -/
theorem cellsRead_write {c : List (Nat × BitVec n)} (a : Nat) (v : BitVec n) (x : Nat) (hc : cellsWf c = true) :
    cellsRead (cellsWrite c a v) x = if x = a then v else cellsRead c x := by
  split
  · rename_i h
    rw [h, cellsRead_write_self a v hc]
  · rename_i h
    exact cellsRead_write_ne c a v h

/-- Writes at different addresses commute, in canonical form. -/
theorem cellsWrite_comm {c : List (Nat × BitVec n)} {a b : Nat} (v w : BitVec n) (h : a ≠ b) (hc : cellsWf c = true) :
    cellsWrite (cellsWrite c a v) b w = cellsWrite (cellsWrite c b w) a v := by
  have ha := cellsWrite_wf a v hc
  have hb := cellsWrite_wf b w hc
  refine cells_ext (cellsWrite_wf b w ha) (cellsWrite_wf a v hb) fun x => ?_
  rw [cellsRead_write b w x ha, cellsRead_write a v x hc, cellsRead_write a v x hb, cellsRead_write b w x hc]
  split <;> split <;> simp_all

/-- Writing what an address reads as changes nothing, in canonical form. -/
theorem cellsWrite_read {c : List (Nat × BitVec n)} (a : Nat) (hc : cellsWf c = true) :
    cellsWrite c a (cellsRead c a) = c := by
  refine cells_ext (cellsWrite_wf a _ hc) hc fun x => ?_
  rw [cellsRead_write a _ x hc]
  split
  · rename_i h
    rw [h]
  · rfl

/-! ### The register file and wave RAM -/

theorem State.setReg_reg_self (s : State) (a : Nat) (v : Word) (h : RegFile.wf s.regs = true) :
    (s.setReg a v).reg a = v :=
  cellsRead_write_self a v h

theorem State.setReg_reg_ne (s : State) {a c : Nat} (v : Word) (h : c ≠ a) : (s.setReg a v).reg c = s.reg c :=
  cellsRead_write_ne s.regs a v h

theorem State.store_reg_self (s : State) (a : Nat) (v m : Word) (h : RegFile.wf s.regs = true) :
    (s.store a v m).reg a = merge (s.reg a) v m :=
  cellsRead_write_self a _ h

theorem State.store_reg_ne (s : State) {a c : Nat} (v m : Word) (h : c ≠ a) : (s.store a v m).reg c = s.reg c :=
  cellsRead_write_ne s.regs a _ h

theorem State.setReg_regs_wf (s : State) (a : Nat) (v : Word) (h : RegFile.wf s.regs = true) :
    RegFile.wf (s.setReg a v).regs = true :=
  cellsWrite_wf a v h

theorem State.store_regs_wf (s : State) (a : Nat) (v m : Word) (h : RegFile.wf s.regs = true) :
    RegFile.wf (s.store a v m).regs = true :=
  cellsWrite_wf a _ h

theorem State.setReg_comm (s : State) {a b : Nat} (v w : Word) (h : a ≠ b) (hr : RegFile.wf s.regs = true) :
    (s.setReg a v).setReg b w = (s.setReg b w).setReg a v := by
  simp only [State.setReg]
  rw [cellsWrite_comm v w h hr]

/-- Writing what a register reads as changes nothing. -/
theorem State.setReg_reg (s : State) (a : Nat) (hr : RegFile.wf s.regs = true) : s.setReg a (s.reg a) = s := by
  unfold State.setReg State.reg
  rw [cellsWrite_read a hr]

/-- The one operation that writes wave RAM keeps its canonical form. -/
theorem State.pokeRam_wf (s : State) (a : Nat) (b : Byte) (h : Memory.wf s.ram = true) :
    Memory.wf (s.pokeRam a b).ram = true := by
  unfold State.pokeRam
  split
  · exact cellsWrite_wf a b h
  · exact h

theorem State.reset_ram_wf : Memory.wf State.reset.ram = true := rfl

theorem State.reset_regs_wf : RegFile.wf State.reset.regs = true := rfl

/-- Slot words of different slots or different offsets are different words. -/
theorem slotReg_inj {i j : Fin 64} {o p : Nat} (ho : o < 0x80) (hp : p < 0x80) :
    slotReg i o = slotReg j p ↔ i = j ∧ o = p := by
  unfold slotReg
  constructor
  · intro h
    have : i.val = j.val := by omega
    exact ⟨Fin.ext this, by omega⟩
  · rintro ⟨rfl, rfl⟩
    rfl

/-- Every slot word lies below the other registers. -/
theorem slotReg_lt (i : Fin 64) {o : Nat} (ho : o < 0x80) : slotReg i o < 0x2000 := by
  unfold slotReg
  omega

end Sys2Proof.Machine
end

