-- ==== Sys2Proof/Laws/State.lean ====
section
/-! SUPPORT. What each update of State leaves in each field: one lemma per field per update, true by rfl. -/

namespace Sys2Proof.Machine

variable (s : State)

@[simp] theorem State.setReg_params (a : Nat) (v : Word) : (s.setReg a v).params = s.params := rfl
@[simp] theorem State.setReg_regs (a : Nat) (v : Word) : (s.setReg a v).regs = cellsWrite s.regs a v := rfl
@[simp] theorem State.setReg_slots (a : Nat) (v : Word) : (s.setReg a v).slots = s.slots := rfl
@[simp] theorem State.setReg_timCnt (a : Nat) (v : Word) : (s.setReg a v).timCnt = s.timCnt := rfl
@[simp] theorem State.setReg_irq (a : Nat) (v : Word) : (s.setReg a v).irq = s.irq := rfl
@[simp] theorem State.setReg_irqSrc (a : Nat) (v : Word) : (s.setReg a v).irqSrc = s.irqSrc := rfl
@[simp] theorem State.setReg_midiPending (a : Nat) (v : Word) : (s.setReg a v).midiPending = s.midiPending := rfl
@[simp] theorem State.setReg_fade (a : Nat) (v : Word) : (s.setReg a v).fade = s.fade := rfl
@[simp] theorem State.setReg_noise (a : Nat) (v : Word) : (s.setReg a v).noise = s.noise := rfl
@[simp] theorem State.setReg_refused (a : Nat) (v : Word) : (s.setReg a v).refused = s.refused := rfl
@[simp] theorem State.setReg_ram (a : Nat) (v : Word) : (s.setReg a v).ram = s.ram := rfl
@[simp] theorem State.setReg_input (a : Nat) (v : Word) : (s.setReg a v).input = s.input := rfl
@[simp] theorem State.setReg_result (a : Nat) (v : Word) : (s.setReg a v).result = s.result := rfl
@[simp] theorem State.setReg_draws (a : Nat) (v : Word) : (s.setReg a v).draws = s.draws := rfl

@[simp] theorem State.store_params (a : Nat) (v m : Word) : (s.store a v m).params = s.params := rfl
@[simp] theorem State.store_regs (a : Nat) (v m : Word) : (s.store a v m).regs = cellsWrite s.regs a (merge (s.reg a) v m) := rfl
@[simp] theorem State.store_slots (a : Nat) (v m : Word) : (s.store a v m).slots = s.slots := rfl
@[simp] theorem State.store_timCnt (a : Nat) (v m : Word) : (s.store a v m).timCnt = s.timCnt := rfl
@[simp] theorem State.store_irq (a : Nat) (v m : Word) : (s.store a v m).irq = s.irq := rfl
@[simp] theorem State.store_irqSrc (a : Nat) (v m : Word) : (s.store a v m).irqSrc = s.irqSrc := rfl
@[simp] theorem State.store_midiPending (a : Nat) (v m : Word) : (s.store a v m).midiPending = s.midiPending := rfl
@[simp] theorem State.store_fade (a : Nat) (v m : Word) : (s.store a v m).fade = s.fade := rfl
@[simp] theorem State.store_noise (a : Nat) (v m : Word) : (s.store a v m).noise = s.noise := rfl
@[simp] theorem State.store_refused (a : Nat) (v m : Word) : (s.store a v m).refused = s.refused := rfl
@[simp] theorem State.store_ram (a : Nat) (v m : Word) : (s.store a v m).ram = s.ram := rfl
@[simp] theorem State.store_input (a : Nat) (v m : Word) : (s.store a v m).input = s.input := rfl
@[simp] theorem State.store_result (a : Nat) (v m : Word) : (s.store a v m).result = s.result := rfl
@[simp] theorem State.store_draws (a : Nat) (v m : Word) : (s.store a v m).draws = s.draws := rfl

@[simp] theorem State.setSlot_params (i : Fin 64) (x : Slot) : (s.setSlot i x).params = s.params := rfl
@[simp] theorem State.setSlot_regs (i : Fin 64) (x : Slot) : (s.setSlot i x).regs = s.regs := rfl
@[simp] theorem State.setSlot_slots (i : Fin 64) (x : Slot) : (s.setSlot i x).slots = s.slots.set i.val x := rfl
@[simp] theorem State.setSlot_timCnt (i : Fin 64) (x : Slot) : (s.setSlot i x).timCnt = s.timCnt := rfl
@[simp] theorem State.setSlot_irq (i : Fin 64) (x : Slot) : (s.setSlot i x).irq = s.irq := rfl
@[simp] theorem State.setSlot_irqSrc (i : Fin 64) (x : Slot) : (s.setSlot i x).irqSrc = s.irqSrc := rfl
@[simp] theorem State.setSlot_midiPending (i : Fin 64) (x : Slot) : (s.setSlot i x).midiPending = s.midiPending := rfl
@[simp] theorem State.setSlot_fade (i : Fin 64) (x : Slot) : (s.setSlot i x).fade = s.fade := rfl
@[simp] theorem State.setSlot_noise (i : Fin 64) (x : Slot) : (s.setSlot i x).noise = s.noise := rfl
@[simp] theorem State.setSlot_refused (i : Fin 64) (x : Slot) : (s.setSlot i x).refused = s.refused := rfl
@[simp] theorem State.setSlot_ram (i : Fin 64) (x : Slot) : (s.setSlot i x).ram = s.ram := rfl
@[simp] theorem State.setSlot_input (i : Fin 64) (x : Slot) : (s.setSlot i x).input = s.input := rfl
@[simp] theorem State.setSlot_result (i : Fin 64) (x : Slot) : (s.setSlot i x).result = s.result := rfl
@[simp] theorem State.setSlot_draws (i : Fin 64) (x : Slot) : (s.setSlot i x).draws = s.draws := rfl
@[simp] theorem State.setSlot_reg (i : Fin 64) (x : Slot) (c : Nat) : (s.setSlot i x).reg c = s.reg c := rfl
@[simp] theorem State.setSlot_sr (i : Fin 64) (x : Slot) (j : Fin 64) (o : Nat) : (s.setSlot i x).sr j o = s.sr j o := rfl

@[simp] theorem State.setTim_params (k : Fin 3) (c : BitVec 16) : (s.setTim k c).params = s.params := rfl
@[simp] theorem State.setTim_regs (k : Fin 3) (c : BitVec 16) : (s.setTim k c).regs = s.regs := rfl
@[simp] theorem State.setTim_slots (k : Fin 3) (c : BitVec 16) : (s.setTim k c).slots = s.slots := rfl
@[simp] theorem State.setTim_timCnt (k : Fin 3) (c : BitVec 16) : (s.setTim k c).timCnt = s.timCnt.set k.val c := rfl
@[simp] theorem State.setTim_irq (k : Fin 3) (c : BitVec 16) : (s.setTim k c).irq = s.irq := rfl
@[simp] theorem State.setTim_irqSrc (k : Fin 3) (c : BitVec 16) : (s.setTim k c).irqSrc = s.irqSrc := rfl
@[simp] theorem State.setTim_midiPending (k : Fin 3) (c : BitVec 16) : (s.setTim k c).midiPending = s.midiPending := rfl
@[simp] theorem State.setTim_fade (k : Fin 3) (c : BitVec 16) : (s.setTim k c).fade = s.fade := rfl
@[simp] theorem State.setTim_noise (k : Fin 3) (c : BitVec 16) : (s.setTim k c).noise = s.noise := rfl
@[simp] theorem State.setTim_refused (k : Fin 3) (c : BitVec 16) : (s.setTim k c).refused = s.refused := rfl
@[simp] theorem State.setTim_ram (k : Fin 3) (c : BitVec 16) : (s.setTim k c).ram = s.ram := rfl
@[simp] theorem State.setTim_input (k : Fin 3) (c : BitVec 16) : (s.setTim k c).input = s.input := rfl
@[simp] theorem State.setTim_result (k : Fin 3) (c : BitVec 16) : (s.setTim k c).result = s.result := rfl
@[simp] theorem State.setTim_draws (k : Fin 3) (c : BitVec 16) : (s.setTim k c).draws = s.draws := rfl
@[simp] theorem State.setTim_reg (k : Fin 3) (c : BitVec 16) (a : Nat) : (s.setTim k c).reg a = s.reg a := rfl
@[simp] theorem State.setTim_sr (k : Fin 3) (c : BitVec 16) (j : Fin 64) (o : Nat) : (s.setTim k c).sr j o = s.sr j o := rfl

@[simp] theorem State.setFade_params (f : Fader) : (s.setFade f).params = s.params := rfl
@[simp] theorem State.setFade_regs (f : Fader) : (s.setFade f).regs = s.regs := rfl
@[simp] theorem State.setFade_slots (f : Fader) : (s.setFade f).slots = s.slots := rfl
@[simp] theorem State.setFade_timCnt (f : Fader) : (s.setFade f).timCnt = s.timCnt := rfl
@[simp] theorem State.setFade_irq (f : Fader) : (s.setFade f).irq = s.irq := rfl
@[simp] theorem State.setFade_irqSrc (f : Fader) : (s.setFade f).irqSrc = s.irqSrc := rfl
@[simp] theorem State.setFade_midiPending (f : Fader) : (s.setFade f).midiPending = s.midiPending := rfl
@[simp] theorem State.setFade_fade (f : Fader) : (s.setFade f).fade = f := rfl
@[simp] theorem State.setFade_noise (f : Fader) : (s.setFade f).noise = s.noise := rfl
@[simp] theorem State.setFade_refused (f : Fader) : (s.setFade f).refused = s.refused := rfl
@[simp] theorem State.setFade_ram (f : Fader) : (s.setFade f).ram = s.ram := rfl
@[simp] theorem State.setFade_input (f : Fader) : (s.setFade f).input = s.input := rfl
@[simp] theorem State.setFade_result (f : Fader) : (s.setFade f).result = s.result := rfl
@[simp] theorem State.setFade_draws (f : Fader) : (s.setFade f).draws = s.draws := rfl
@[simp] theorem State.setFade_reg (f : Fader) (c : Nat) : (s.setFade f).reg c = s.reg c := rfl
@[simp] theorem State.setFade_sr (f : Fader) (j : Fin 64) (o : Nat) : (s.setFade f).sr j o = s.sr j o := rfl

@[simp] theorem State.setDraws_params (d : Nat) : (s.setDraws d).params = s.params := rfl
@[simp] theorem State.setDraws_regs (d : Nat) : (s.setDraws d).regs = s.regs := rfl
@[simp] theorem State.setDraws_slots (d : Nat) : (s.setDraws d).slots = s.slots := rfl
@[simp] theorem State.setDraws_timCnt (d : Nat) : (s.setDraws d).timCnt = s.timCnt := rfl
@[simp] theorem State.setDraws_irq (d : Nat) : (s.setDraws d).irq = s.irq := rfl
@[simp] theorem State.setDraws_irqSrc (d : Nat) : (s.setDraws d).irqSrc = s.irqSrc := rfl
@[simp] theorem State.setDraws_midiPending (d : Nat) : (s.setDraws d).midiPending = s.midiPending := rfl
@[simp] theorem State.setDraws_fade (d : Nat) : (s.setDraws d).fade = s.fade := rfl
@[simp] theorem State.setDraws_noise (d : Nat) : (s.setDraws d).noise = s.noise := rfl
@[simp] theorem State.setDraws_refused (d : Nat) : (s.setDraws d).refused = s.refused := rfl
@[simp] theorem State.setDraws_ram (d : Nat) : (s.setDraws d).ram = s.ram := rfl
@[simp] theorem State.setDraws_input (d : Nat) : (s.setDraws d).input = s.input := rfl
@[simp] theorem State.setDraws_result (d : Nat) : (s.setDraws d).result = s.result := rfl
@[simp] theorem State.setDraws_draws (d : Nat) : (s.setDraws d).draws = d := rfl
@[simp] theorem State.setDraws_reg (d : Nat) (c : Nat) : (s.setDraws d).reg c = s.reg c := rfl
@[simp] theorem State.setDraws_sr (d : Nat) (j : Fin 64) (o : Nat) : (s.setDraws d).sr j o = s.sr j o := rfl

@[simp] theorem State.ret_params (r : Result) : (s.ret r).params = s.params := rfl
@[simp] theorem State.ret_regs (r : Result) : (s.ret r).regs = s.regs := rfl
@[simp] theorem State.ret_slots (r : Result) : (s.ret r).slots = s.slots := rfl
@[simp] theorem State.ret_timCnt (r : Result) : (s.ret r).timCnt = s.timCnt := rfl
@[simp] theorem State.ret_irq (r : Result) : (s.ret r).irq = s.irq := rfl
@[simp] theorem State.ret_irqSrc (r : Result) : (s.ret r).irqSrc = s.irqSrc := rfl
@[simp] theorem State.ret_midiPending (r : Result) : (s.ret r).midiPending = s.midiPending := rfl
@[simp] theorem State.ret_fade (r : Result) : (s.ret r).fade = s.fade := rfl
@[simp] theorem State.ret_noise (r : Result) : (s.ret r).noise = s.noise := rfl
@[simp] theorem State.ret_refused (r : Result) : (s.ret r).refused = s.refused := rfl
@[simp] theorem State.ret_ram (r : Result) : (s.ret r).ram = s.ram := rfl
@[simp] theorem State.ret_input (r : Result) : (s.ret r).input = s.input := rfl
@[simp] theorem State.ret_result (r : Result) : (s.ret r).result = r := rfl
@[simp] theorem State.ret_draws (r : Result) : (s.ret r).draws = s.draws := rfl
@[simp] theorem State.ret_reg (r : Result) (c : Nat) : (s.ret r).reg c = s.reg c := rfl
@[simp] theorem State.ret_sr (r : Result) (j : Fin 64) (o : Nat) : (s.ret r).sr j o = s.sr j o := rfl

@[simp] theorem State.assertIrq_params (src : IrqSrc) : (s.assertIrq src).params = s.params := rfl
@[simp] theorem State.assertIrq_regs (src : IrqSrc) : (s.assertIrq src).regs = s.regs := rfl
@[simp] theorem State.assertIrq_slots (src : IrqSrc) : (s.assertIrq src).slots = s.slots := rfl
@[simp] theorem State.assertIrq_timCnt (src : IrqSrc) : (s.assertIrq src).timCnt = s.timCnt := rfl
@[simp] theorem State.assertIrq_irq (src : IrqSrc) : (s.assertIrq src).irq = true := rfl
@[simp] theorem State.assertIrq_irqSrc (src : IrqSrc) : (s.assertIrq src).irqSrc = src := rfl
@[simp] theorem State.assertIrq_midiPending (src : IrqSrc) : (s.assertIrq src).midiPending = s.midiPending := rfl
@[simp] theorem State.assertIrq_fade (src : IrqSrc) : (s.assertIrq src).fade = s.fade := rfl
@[simp] theorem State.assertIrq_noise (src : IrqSrc) : (s.assertIrq src).noise = s.noise := rfl
@[simp] theorem State.assertIrq_refused (src : IrqSrc) : (s.assertIrq src).refused = s.refused := rfl
@[simp] theorem State.assertIrq_ram (src : IrqSrc) : (s.assertIrq src).ram = s.ram := rfl
@[simp] theorem State.assertIrq_input (src : IrqSrc) : (s.assertIrq src).input = s.input := rfl
@[simp] theorem State.assertIrq_result (src : IrqSrc) : (s.assertIrq src).result = s.result := rfl
@[simp] theorem State.assertIrq_draws (src : IrqSrc) : (s.assertIrq src).draws = s.draws := rfl
@[simp] theorem State.assertIrq_reg (src : IrqSrc) (c : Nat) : (s.assertIrq src).reg c = s.reg c := rfl
@[simp] theorem State.assertIrq_sr (src : IrqSrc) (j : Fin 64) (o : Nat) : (s.assertIrq src).sr j o = s.sr j o := rfl

@[simp] theorem State.deassertIrq_params : (s.deassertIrq).params = s.params := rfl
@[simp] theorem State.deassertIrq_regs : (s.deassertIrq).regs = s.regs := rfl
@[simp] theorem State.deassertIrq_slots : (s.deassertIrq).slots = s.slots := rfl
@[simp] theorem State.deassertIrq_timCnt : (s.deassertIrq).timCnt = s.timCnt := rfl
@[simp] theorem State.deassertIrq_irq : (s.deassertIrq).irq = false := rfl
@[simp] theorem State.deassertIrq_irqSrc : (s.deassertIrq).irqSrc = s.irqSrc := rfl
@[simp] theorem State.deassertIrq_midiPending : (s.deassertIrq).midiPending = s.midiPending := rfl
@[simp] theorem State.deassertIrq_fade : (s.deassertIrq).fade = s.fade := rfl
@[simp] theorem State.deassertIrq_noise : (s.deassertIrq).noise = s.noise := rfl
@[simp] theorem State.deassertIrq_refused : (s.deassertIrq).refused = s.refused := rfl
@[simp] theorem State.deassertIrq_ram : (s.deassertIrq).ram = s.ram := rfl
@[simp] theorem State.deassertIrq_input : (s.deassertIrq).input = s.input := rfl
@[simp] theorem State.deassertIrq_result : (s.deassertIrq).result = s.result := rfl
@[simp] theorem State.deassertIrq_draws : (s.deassertIrq).draws = s.draws := rfl
@[simp] theorem State.deassertIrq_reg (c : Nat) : (s.deassertIrq).reg c = s.reg c := rfl
@[simp] theorem State.deassertIrq_sr (j : Fin 64) (o : Nat) : (s.deassertIrq).sr j o = s.sr j o := rfl

@[simp] theorem State.setMidi_params (p : Bool) : (s.setMidi p).params = s.params := rfl
@[simp] theorem State.setMidi_regs (p : Bool) : (s.setMidi p).regs = s.regs := rfl
@[simp] theorem State.setMidi_slots (p : Bool) : (s.setMidi p).slots = s.slots := rfl
@[simp] theorem State.setMidi_timCnt (p : Bool) : (s.setMidi p).timCnt = s.timCnt := rfl
@[simp] theorem State.setMidi_irq (p : Bool) : (s.setMidi p).irq = s.irq := rfl
@[simp] theorem State.setMidi_irqSrc (p : Bool) : (s.setMidi p).irqSrc = s.irqSrc := rfl
@[simp] theorem State.setMidi_midiPending (p : Bool) : (s.setMidi p).midiPending = p := rfl
@[simp] theorem State.setMidi_fade (p : Bool) : (s.setMidi p).fade = s.fade := rfl
@[simp] theorem State.setMidi_noise (p : Bool) : (s.setMidi p).noise = s.noise := rfl
@[simp] theorem State.setMidi_refused (p : Bool) : (s.setMidi p).refused = s.refused := rfl
@[simp] theorem State.setMidi_ram (p : Bool) : (s.setMidi p).ram = s.ram := rfl
@[simp] theorem State.setMidi_input (p : Bool) : (s.setMidi p).input = s.input := rfl
@[simp] theorem State.setMidi_result (p : Bool) : (s.setMidi p).result = s.result := rfl
@[simp] theorem State.setMidi_draws (p : Bool) : (s.setMidi p).draws = s.draws := rfl
@[simp] theorem State.setMidi_reg (p : Bool) (c : Nat) : (s.setMidi p).reg c = s.reg c := rfl
@[simp] theorem State.setMidi_sr (p : Bool) (j : Fin 64) (o : Nat) : (s.setMidi p).sr j o = s.sr j o := rfl

@[simp] theorem State.refuse_params (why : RefuseReason) : (s.refuse why).params = s.params := rfl
@[simp] theorem State.refuse_regs (why : RefuseReason) : (s.refuse why).regs = s.regs := rfl
@[simp] theorem State.refuse_slots (why : RefuseReason) : (s.refuse why).slots = s.slots := rfl
@[simp] theorem State.refuse_timCnt (why : RefuseReason) : (s.refuse why).timCnt = s.timCnt := rfl
@[simp] theorem State.refuse_irq (why : RefuseReason) : (s.refuse why).irq = s.irq := rfl
@[simp] theorem State.refuse_irqSrc (why : RefuseReason) : (s.refuse why).irqSrc = s.irqSrc := rfl
@[simp] theorem State.refuse_midiPending (why : RefuseReason) : (s.refuse why).midiPending = s.midiPending := rfl
@[simp] theorem State.refuse_fade (why : RefuseReason) : (s.refuse why).fade = s.fade := rfl
@[simp] theorem State.refuse_noise (why : RefuseReason) : (s.refuse why).noise = s.noise := rfl
@[simp] theorem State.refuse_refused (why : RefuseReason) : (s.refuse why).refused = true := rfl
@[simp] theorem State.refuse_ram (why : RefuseReason) : (s.refuse why).ram = s.ram := rfl
@[simp] theorem State.refuse_input (why : RefuseReason) : (s.refuse why).input = s.input := rfl
@[simp] theorem State.refuse_result (why : RefuseReason) : (s.refuse why).result = .refused why := rfl
@[simp] theorem State.refuse_draws (why : RefuseReason) : (s.refuse why).draws = s.draws := rfl
@[simp] theorem State.refuse_reg (why : RefuseReason) (c : Nat) : (s.refuse why).reg c = s.reg c := rfl
@[simp] theorem State.refuse_sr (why : RefuseReason) (j : Fin 64) (o : Nat) : (s.refuse why).sr j o = s.sr j o := rfl

@[simp] theorem State.withInput_params (rest : List Event) : (s.withInput rest).params = s.params := rfl
@[simp] theorem State.withInput_regs (rest : List Event) : (s.withInput rest).regs = s.regs := rfl
@[simp] theorem State.withInput_slots (rest : List Event) : (s.withInput rest).slots = s.slots := rfl
@[simp] theorem State.withInput_timCnt (rest : List Event) : (s.withInput rest).timCnt = s.timCnt := rfl
@[simp] theorem State.withInput_irq (rest : List Event) : (s.withInput rest).irq = s.irq := rfl
@[simp] theorem State.withInput_irqSrc (rest : List Event) : (s.withInput rest).irqSrc = s.irqSrc := rfl
@[simp] theorem State.withInput_midiPending (rest : List Event) : (s.withInput rest).midiPending = s.midiPending := rfl
@[simp] theorem State.withInput_fade (rest : List Event) : (s.withInput rest).fade = s.fade := rfl
@[simp] theorem State.withInput_noise (rest : List Event) : (s.withInput rest).noise = s.noise := rfl
@[simp] theorem State.withInput_refused (rest : List Event) : (s.withInput rest).refused = s.refused := rfl
@[simp] theorem State.withInput_ram (rest : List Event) : (s.withInput rest).ram = s.ram := rfl
@[simp] theorem State.withInput_input (rest : List Event) : (s.withInput rest).input = rest := rfl
@[simp] theorem State.withInput_result (rest : List Event) : (s.withInput rest).result = s.result := rfl
@[simp] theorem State.withInput_draws (rest : List Event) : (s.withInput rest).draws = s.draws := rfl
@[simp] theorem State.withInput_reg (rest : List Event) (c : Nat) : (s.withInput rest).reg c = s.reg c := rfl
@[simp] theorem State.withInput_sr (rest : List Event) (j : Fin 64) (o : Nat) : (s.withInput rest).sr j o = s.sr j o := rfl

/-! ### Slots and counters, by index -/

theorem State.setSlot_slot_self (i : Fin 64) (x : Slot) : (s.setSlot i x).slots[i] = x := by
  simp

theorem State.setSlot_slot_ne {i j : Fin 64} (x : Slot) (h : j ≠ i) : (s.setSlot i x).slots[j] = s.slots[j] := by
  have h' : i.val ≠ j.val := fun e => h (Fin.ext e.symm)
  simp [h']

theorem State.setTim_cnt_self (k : Fin 3) (c : BitVec 16) : (s.setTim k c).timCnt[k] = c := by
  simp

theorem State.setTim_cnt_ne {k j : Fin 3} (c : BitVec 16) (h : j ≠ k) : (s.setTim k c).timCnt[j] = s.timCnt[j] := by
  have h' : k.val ≠ j.val := fun e => h (Fin.ext e.symm)
  simp [h']

end Sys2Proof.Machine
end

