-- ==== Sys2Proof/Laws/Tables.lean ====
section
/-! SUPPORT. The lookup tables: what a lookup gives, the tables of an instance at their reference values, and bounds of the
reference values over every index. -/

namespace Sys2Proof.Machine

theorem mem_of_getD {α : Type} {l : List α} {i : Nat} {d : α} : l.getD i d ∈ l ∨ l.getD i d = d := by
  by_cases h : i < l.length
  · left
    rw [List.getD_eq_getElem _ _ h]
    exact List.getElem_mem h
  · right
    rw [List.getD_eq_default _ _ (Nat.le_of_not_lt h)]

/-- A bound of every entry of a table is a bound of every lookup. -/
theorem tableGet_le {t : List (List Nat)} {b : Nat} (w i : Nat) (h : t.all (fun r => r.all (fun v => decide (v ≤ b))) = true) :
    tableGet t w i ≤ b := by
  unfold tableGet
  rw [List.all_eq_true] at h
  rcases mem_of_getD (l := t) (i := i / w) (d := []) with hr | hr
  · have hr' := h _ hr
    rw [List.all_eq_true] at hr'
    rcases mem_of_getD (l := t.getD (i / w) []) (i := i % w) (d := 0) with hv | hv
    · simpa using hr' _ hv
    · rw [hv]
      exact Nat.zero_le b
  · rw [hr]
    simp

/-- Bounds of every run's value are bounds of every lookup inside the runs. -/
theorem runGet_bounds : ∀ {t : List (Nat × Nat)} {lo hi : Nat} (i : Nat),
    t.all (fun r => decide (lo ≤ r.1) && decide (r.1 ≤ hi)) = true → i < (t.map Prod.snd).sum →
    lo ≤ runGet t i ∧ runGet t i ≤ hi
  | [], _, _, i, _, h => by simp at h
  | (v, n) :: rest, lo, hi, i, ha, h => by
    rw [List.all_cons, Bool.and_eq_true, Bool.and_eq_true, decide_eq_true_eq, decide_eq_true_eq] at ha
    unfold runGet
    split
    · exact ha.1
    · rename_i hi'
      rw [List.map_cons, List.sum_cons] at h
      exact runGet_bounds (i - n) ha.2 (by dsimp only at h; omega)

theorem arEntry_le (f : EgFrac) (i : Nat) : arEntry f i ≤ 1024 * 2 ^ f.bits := by
  cases f
  · exact tableGet_le 8 i (by decide)
  · exact tableGet_le 8 i (by decide)

theorem drEntry_le (f : EgFrac) (i : Nat) : drEntry f i ≤ 8 * 2 ^ f.bits := by
  cases f
  · exact tableGet_le 8 i (by decide)
  · exact tableGet_le 8 i (by decide)

theorem egEntry_le (i : Nat) : egEntry i ≤ 4096 := tableGet_le 16 i (by decide +kernel)

end Sys2Proof.Machine

/-! ### The tables of an instance -/

namespace Sys2Proof

@[simp] theorem LookupTable.get_reference {α : Type} {n : Nat} (i : Nat) (ref : α) :
    (LookupTable.reference : LookupTable α n).get i ref = ref := rfl

@[simp] theorem LookupTable.get_given {α : Type} {n : Nat} (entries : Vector α n) {i : Nat} (ref : α) (h : i < n) :
    (LookupTable.given entries).get i ref = entries[i] := dif_pos h

theorem Params.arEntry_reference {p : Params} (h : p.tables = Tables.reference) (i : Nat) :
    p.arEntry i = Machine.arEntry p.egFrac i := by simp [Params.arEntry, h, Tables.reference]

theorem Params.drEntry_reference {p : Params} (h : p.tables = Tables.reference) (i : Nat) :
    p.drEntry i = Machine.drEntry p.egFrac i := by simp [Params.drEntry, h, Tables.reference]

theorem Params.egEntry_reference {p : Params} (h : p.tables = Tables.reference) (i : Nat) :
    p.egEntry i = Machine.egEntry i := by simp [Params.egEntry, h, Tables.reference]

theorem Params.lpan_reference {p : Params} (h : p.tables = Tables.reference) (tl pan sdl : Nat) :
    p.lpan tl pan sdl = Machine.lpan tl pan sdl := by simp [Params.lpan, h, Tables.reference]

theorem Params.rpan_reference {p : Params} (h : p.tables = Tables.reference) (tl pan sdl : Nat) :
    p.rpan tl pan sdl = Machine.rpan tl pan sdl := by simp [Params.rpan, h, Tables.reference]

theorem Params.lfoStep_reference {p : Params} (h : p.tables = Tables.reference) (f : Nat) :
    p.lfoStep f = BitVec.ofNat 32 (Machine.lfoStep f) := by simp [Params.lfoStep, h, Tables.reference]

theorem Params.pscales_reference {p : Params} (h : p.tables = Tables.reference) (d : BitVec 3) (i : Nat) :
    p.pscales d i = Machine.pscales d i := by simp [Params.pscales, h, Tables.reference]

theorem Params.ascales_reference {p : Params} (h : p.tables = Tables.reference) (d : BitVec 3) (i : Nat) :
    p.ascales d i = Machine.ascales d i := by simp [Params.ascales, h, Tables.reference]

theorem Params.egEntry_le {p : Params} (h : p.tables = Tables.reference) (i : Nat) : p.egEntry i ≤ 4096 := by
  rw [Params.egEntry_reference h]
  exact Machine.egEntry_le i

/-- A pitch waveform holds -128 .. 127, whatever its table holds (R222). -/
theorem Params.pitchSaw_range (p : Params) (i : Nat) : -128 ≤ p.pitchSaw i ∧ p.pitchSaw i < 128 :=
  ⟨BitVec.le_toInt _, BitVec.toInt_lt⟩
@[inherit_doc Params.pitchSaw_range]
theorem Params.pitchSquare_range (p : Params) (i : Nat) : -128 ≤ p.pitchSquare i ∧ p.pitchSquare i < 128 :=
  ⟨BitVec.le_toInt _, BitVec.toInt_lt⟩
@[inherit_doc Params.pitchSaw_range]
theorem Params.pitchTri_range (p : Params) (i : Nat) : -128 ≤ p.pitchTri i ∧ p.pitchTri i < 128 :=
  ⟨BitVec.le_toInt _, BitVec.toInt_lt⟩

end Sys2Proof
end

