-- ==== Sys2Proof/Laws/Ops.lean ====
section
/-! SUPPORT. What the shared operations of Ops, Flags, HostWrite, Lfo and Waveform can do: one lemma for each. -/

namespace Sys2Proof.Machine

/-! ### Slots and registers -/

theorem State.setSlot_slot (s : State) (i j : Fin 64) (x : Slot) :
    (s.setSlot i x).slots[j] = if j = i then x else s.slots[j] := by
  split
  · rename_i h
    subst h
    exact State.setSlot_slot_self s j x
  · rename_i h
    exact State.setSlot_slot_ne s x h

theorem State.setReg_reg_eq (s : State) (a b : Nat) (v : Word) (h : RegFile.wf s.regs = true) :
    (s.setReg a v).reg b = if b = a then v else s.reg b :=
  cellsRead_write a v b h

theorem State.setReg_sr_ne (s : State) {i j : Fin 64} {o p : Nat} (v : Word) (ho : o < 0x80) (hp : p < 0x80)
    (h : ¬(j = i ∧ p = o)) : (s.setReg (slotReg i o) v).sr j p = s.sr j p := by
  refine State.setReg_reg_ne s v fun e => h ?_
  exact (slotReg_inj hp ho).mp e

theorem State.setReg_sr (s : State) (i j : Fin 64) {o p : Nat} (v : Word) (ho : o < 0x80) (hp : p < 0x80)
    (h : RegFile.wf s.regs = true) :
    (s.setReg (slotReg i o) v).sr j p = if j = i ∧ p = o then v else s.sr j p := by
  split
  · rename_i e
    obtain ⟨rfl, rfl⟩ := e
    exact State.setReg_reg_self s _ v h
  · rename_i e
    exact State.setReg_sr_ne s v ho hp e

/-! ### Byte-enabled writes -/

/-- Bit `k` of a merged word is the value's where the mask enables it, else the old word's (R66). -/
theorem merge_getLsbD (w v m : Word) (k : Nat) :
    (merge w v m).getLsbD k = if m.getLsbD k then v.getLsbD k else w.getLsbD k := by
  unfold merge
  rw [BitVec.getLsbD_or, BitVec.getLsbD_and, BitVec.getLsbD_and, BitVec.getLsbD_not]
  by_cases hk : k < 16
  · cases m.getLsbD k <;> simp [hk]
  · simp [BitVec.getLsbD_of_ge _ _ (Nat.le_of_not_lt hk)]

theorem merge_full (w v : Word) : merge w v 0xFFFF = v := by
  refine BitVec.eq_of_getLsbD_eq fun k hk => ?_
  have h : (0xFFFF : Word).getLsbD k = true := by
    rw [show (0xFFFF : Word) = BitVec.allOnes 16 from by decide, BitVec.getLsbD_allOnes]
    simpa using hk
  rw [merge_getLsbD, h, if_pos rfl]

theorem byteEnableOk_iff (m : Word) : byteEnableOk m = true ↔ m = 0xFFFF ∨ m = 0x00FF ∨ m = 0xFF00 := by
  simp [byteEnableOk, or_assoc]

theorem State.hostWrite_ok (s : State) {m : Word} (effect : State → State) (h : byteEnableOk m = true) :
    s.hostWrite m effect = (effect s).ret .none := if_pos h

theorem State.hostWrite_bad (s : State) {m : Word} (effect : State → State) (h : byteEnableOk m = false) :
    s.hostWrite m effect = s.refuse .badByteEnable := if_neg (by simp [h])

/-! ### The interrupt line -/

/-- Everything `CheckIrq` can do (R265): it asserts the line for the first source present, or changes nothing. -/
theorem State.checkIrq_cases (s : State) :
    (s.midiPending = true ∧ s.checkIrq = s.assertIrq .midi) ∨
    (s.midiPending = false ∧ s.timerAsserts 0 = true ∧ s.checkIrq = s.assertIrq .tima) ∨
    (s.midiPending = false ∧ s.timerAsserts 0 = false ∧ s.timerAsserts 1 = true ∧ s.checkIrq = s.assertIrq .timb) ∨
    (s.midiPending = false ∧ s.timerAsserts 0 = false ∧ s.timerAsserts 1 = false ∧ s.timerAsserts 2 = true ∧
      s.checkIrq = s.assertIrq .timc) ∨
    (s.midiPending = false ∧ s.timerAsserts 0 = false ∧ s.timerAsserts 1 = false ∧ s.timerAsserts 2 = false ∧
      s.checkIrq = s) := by
  unfold State.checkIrq
  cases s.midiPending <;> cases s.timerAsserts 0 <;> cases s.timerAsserts 1 <;> cases s.timerAsserts 2 <;> simp

/-- `CheckIrq` writes the line and its source, nothing else. -/
theorem State.checkIrq_frame (s : State) : s.checkIrq = { s with irq := s.checkIrq.irq, irqSrc := s.checkIrq.irqSrc } := by
  rcases s.checkIrq_cases with h | h | h | h | h
  · rw [h.2]; rfl
  · rw [h.2.2]; rfl
  · rw [h.2.2.2]; rfl
  · rw [h.2.2.2.2]; rfl
  · rw [h.2.2.2.2]

/-! ### Wave RAM -/

/-- Everything a read of a byte can do (R61): below `RAM_SIZE` it draws nothing, from there on it draws. -/
theorem State.memByte_cases (s : State) (addr d : Nat) :
    (s.inRam addr ∧ s.memByte addr d = (s.ramByte (addr % 0x800000), d)) ∨
      (¬s.inRam addr ∧ s.memByte addr d = (Config.drawByte d, d + 1)) := by
  by_cases h : s.inRam addr
  · exact .inl ⟨h, if_pos h⟩
  · exact .inr ⟨h, if_neg h⟩

theorem State.memByte_inRam (s : State) {addr : Nat} (d : Nat) (h : s.inRam addr) :
    s.memByte addr d = (s.ramByte (addr % 0x800000), d) := if_pos h

/-- A 16-bit sample whose two bytes lie below `RAM_SIZE` draws nothing (R62). -/
theorem State.memWord_inRam (s : State) {addr : Nat} (d : Nat) (h : s.inRam addr) (h' : s.inRam (addr + 1)) :
    s.memWord addr d = (s.ramByte ((addr + 1) % 0x800000) ++ s.ramByte (addr % 0x800000), d) := by
  have e : (waveMask addr + 1) % 0x800000 = (addr + 1) % 0x800000 := by
    unfold waveMask
    omega
  have h2 : s.inRam (waveMask addr + 1) := by
    unfold State.inRam at h' ⊢
    rwa [e]
  unfold State.memWord
  dsimp only
  rw [State.memByte_inRam s d h, State.memByte_inRam s _ h2, e]

/-- With 8 MiB every masked address lies below `RAM_SIZE`. -/
theorem State.inRam_mib8 (s : State) (addr : Nat) (h : s.params.ramSize = .mib8) : s.inRam addr := by
  unfold State.inRam
  rw [h]
  exact Nat.mod_lt _ (by decide)

/-- With 8 MiB a read draws nothing (R61). -/
theorem State.memByte_mib8 (s : State) (addr d : Nat) (h : s.params.ramSize = .mib8) :
    s.memByte addr d = (s.ramByte (addr % 0x800000), d) := s.memByte_inRam d (s.inRam_mib8 addr h)

theorem State.fetchInRam_mib8 (s : State) (i : Fin 64) (h : s.params.ramSize = .mib8) : s.fetchInRam i := by
  have hs : ∀ k, s.sampleInRam i k := by
    intro k
    unfold State.sampleInRam
    split
    · exact ⟨s.inRam_mib8 _ h, s.inRam_mib8 _ h⟩
    · split
      · exact s.inRam_mib8 _ h
      · exact fun _ _ _ => s.inRam_mib8 _ h
  exact ⟨fun _ => hs _, hs _⟩

/-- A read depends on the parameters and on wave RAM alone. -/
theorem State.memByte_congr {s t : State} (addr d : Nat) (hp : t.params = s.params) (hr : t.ram = s.ram) :
    t.memByte addr d = s.memByte addr d := by
  unfold State.memByte
  rw [hp, hr]

/-- What the environment's write of a byte leaves at every address below `RAM_SIZE`. -/
theorem State.pokeRam_read (s : State) (a x : Nat) (b : Byte) (hx : x < s.params.ramSize.bytes)
    (h : Memory.wf s.ram = true) : (s.pokeRam a b).ramByte x = if x = a then b else s.ramByte x := by
  unfold State.pokeRam
  by_cases ha : a < s.params.ramSize.bytes
  · rw [if_pos ha]
    exact cellsRead_write a b x h
  · rw [if_neg ha, if_neg (by omega)]

/-! ### Low-frequency oscillators -/

/-- The waveform entry that a use of an LFO reads, after the phase's advance (R227, R228). -/
theorem Lfo.advance_index (l : Lfo) : l.advance.index = l.nextEntry := by
  apply Fin.ext
  simp only [Lfo.advance, Lfo.index, Lfo.nextEntry, Fin.val_ofNat, BitVec.toNat_add, BitVec.toNat_setWidth]
  omega

theorem Lfo.advance_phase (l : Lfo) : l.advance.phase.toNat = (l.phase.toNat + l.phaseStep.toNat) % 65536 := by
  simp [Lfo.advance]

/-- `P_wave` is at most 128 (R222). -/
theorem State.pitchWave_le (s : State) {w : Wave} {n : Fin 256} {v : Int} (h : s.pitchWave w n = some v) : v ≤ 128 := by
  unfold State.pitchWave at h
  cases w <;> simp only [Option.some.injEq, reduceCtorEq] at h <;> subst h
  · exact (s.params.pitchSaw_range n).2.le
  · exact (s.params.pitchSquare_range n).2.le
  · exact (s.params.pitchTri_range n).2.le
  · omega

/-- The gain of a pitch LFO in use is one of its gains (R227, R229). -/
theorem State.pitchGain_is (s : State) (i : Fin 64) (draws : Nat) (h : s.plfos i ≠ 0) :
    s.pitchGainIs i (s.pitchGain s.slots[i].plfo.advance draws).1 := by
  unfold State.pitchGainIs State.pitchGain State.pitchScale
  rw [Lfo.advance_index]
  dsimp only [Lfo.advance]
  rw [if_neg h]
  refine ⟨_, rfl, ?_⟩
  cases hw : s.pitchWave s.slots[i].plfo.wave s.slots[i].plfo.nextEntry with
  | none => exact (Config.drawScale draws).isLt
  | some v =>
    have hv := s.pitchWave_le hw
    by_cases hv' : v = 128
    · subst hv'
      exact (Config.drawScale draws).isLt
    · have hlt : v < 128 := by omega
      simp [hv', hlt]

/-- The gain of an amplitude LFO in use is one of its gains (R228). -/
theorem State.ampGain_is (s : State) (i : Fin 64) (draws : Nat) (h : s.alfos i ≠ 0) :
    s.ampGainIs i (s.ampGain s.slots[i].alfo.advance draws).1 := by
  unfold State.ampGainIs State.ampGain State.ampScale
  rw [Lfo.advance_index]
  dsimp only [Lfo.advance]
  rw [if_neg h]
  refine ⟨_, rfl, ?_⟩
  cases s.ampWave s.slots[i].alfo.wave s.slots[i].alfo.nextEntry with
  | none => exact (Config.drawScale draws).isLt
  | some v => rfl

/-- Everything a use of the pitch LFO can do (R189, R227): the step times one of its gains; and the phase advances. -/
theorem State.pitchUse_cases (s : State) (i : Fin 64) (draws : Nat) :
    (∃ g, s.pitchGainIs i g ∧ (s.pitchUse i s.slots[i] draws).stepEff = s.slots[i].step.toNat * g / 4096) ∧
      (s.pitchUse i s.slots[i] draws).plfo = (if s.plfos i = 0 then s.slots[i].plfo else s.slots[i].plfo.advance) := by
  unfold State.pitchUse
  by_cases h : s.plfos i = 0
  · simp [h, State.pitchGainIs]
  · rw [if_pos h, if_neg h]
    exact ⟨⟨_, s.pitchGain_is i draws h, rfl⟩, rfl⟩

/-- Everything a use of the amplitude LFO can do (R228): the sample times one of its gains; and the phase advances. -/
theorem State.ampUse_cases (s : State) (i : Fin 64) (x : Int) (draws : Nat) :
    (∃ h, s.ampGainIs i h ∧ (s.ampUse i s.slots[i].alfo x draws).x = x * h / 4096) ∧
      (s.ampUse i s.slots[i].alfo x draws).alfo = (if s.alfos i = 0 then s.slots[i].alfo else s.slots[i].alfo.advance) := by
  unfold State.ampUse
  by_cases h : s.alfos i = 0
  · simp [h, State.ampGainIs]
  · rw [if_pos h, if_neg h]
    exact ⟨⟨_, s.ampGain_is i draws h, rfl⟩, rfl⟩

/-! ### Forced stop -/

/-- Everything a forced stop does (R160). -/
theorem State.forcedStop_frame (s : State) (i : Fin 64) :
    s.forcedStop i =
      { s with
        slots := s.slots.set i.val { s.slots[i] with active := false }
        regs := cellsWrite s.regs (slotReg i 0x00) (s.sr i 0x00 &&& ~~~ 0x4000) } := rfl

/-- A slot after its run: its own runtime state, `active` cleared by a stop. -/
theorem State.commitRun_slot (s : State) (i : Fin 64) (r : SlotRun) :
    (s.commitRun i r).slots[i] = if r.stop then { r.slot with active := false } else r.slot := by
  unfold State.commitRun
  split
  · simp [State.forcedStop, State.setSlot]
  · simp [State.setSlot]

theorem State.commitRun_slot_ne (s : State) {i j : Fin 64} (r : SlotRun) (h : j ≠ i) :
    (s.commitRun i r).slots[j] = s.slots[j] := by
  have h' : i.val ≠ j.val := fun e => h (Fin.ext e.symm)
  unfold State.commitRun
  split <;> simp [State.forcedStop, State.setSlot, h']

/-- A slot's run writes its own runtime state, bit 14 of its own word 0x00, and the draw counter. -/
theorem State.commitRun_frame (s : State) (i : Fin 64) (r : SlotRun) :
    s.commitRun i r =
      { s with
        slots := (s.commitRun i r).slots
        regs := if r.stop then cellsWrite s.regs (slotReg i 0x00) (s.sr i 0x00 &&& ~~~ 0x4000) else s.regs
        draws := r.draws } := by
  unfold State.commitRun
  split <;> rfl

theorem State.slotUpdate_frame (s : State) (i : Fin 64) :
    (s.slotUpdate i).1 =
      { s with
        slots := (s.slotUpdate i).1.slots
        regs := (s.slotUpdate i).1.regs
        draws := (s.slotUpdate i).1.draws } := by
  unfold State.slotUpdate
  split
  · rfl
  · dsimp only
    rw [State.commitRun_frame]

theorem State.slotUpdate_slot_ne (s : State) {i j : Fin 64} (h : j ≠ i) :
    (s.slotUpdate i).1.slots[j] = s.slots[j] := by
  unfold State.slotUpdate
  split
  · rfl
  · exact State.commitRun_slot_ne s _ h

/-- A slot's update writes no register word but its own word 0x00. -/
theorem State.slotUpdate_reg_ne (s : State) (i : Fin 64) {a : Nat} (h : a ≠ slotReg i 0x00) :
    (s.slotUpdate i).1.reg a = s.reg a := by
  unfold State.slotUpdate
  split
  · rfl
  · unfold State.commitRun
    dsimp only
    split
    · exact State.setReg_reg_ne _ _ h
    · rfl

end Sys2Proof.Machine
end

