-- ==== Sys2Proof/Laws/Folds.lean ====
section
/-! SUPPORT. What the key scan, the slots' turns, the effect returns and the timers leave alone: each is a fold, and each of
these lemmas is one induction over it. -/

namespace Sys2Proof.Machine

/-! ### Key scan -/

/-- `t` differs from `s` in registers, slots and draw counter at most. -/
def State.scanFrame (s t : State) : Prop := t = { s with regs := t.regs, slots := t.slots, draws := t.draws }

theorem State.scanFrame_refl (s : State) : s.scanFrame s := rfl

theorem State.scanFrame_trans {s t u : State} (h : s.scanFrame t) (g : t.scanFrame u) : s.scanFrame u := by
  unfold State.scanFrame at *
  rw [h] at g
  exact g

theorem State.adpcmKeyOn_frame (s : State) (i : Fin 64) : s.scanFrame (s.adpcmKeyOn i) := by
  unfold State.scanFrame State.adpcmKeyOn
  dsimp only
  split <;> rfl

theorem State.keyOn_frame (s : State) (i : Fin 64) : s.scanFrame (s.keyOn i) := by
  unfold State.keyOn
  dsimp only
  split
  · exact State.scanFrame_trans (t := s.setSlot i _) rfl (State.adpcmKeyOn_frame _ i)
  · rfl

theorem State.scanSlot_frame (s : State) (i : Fin 64) : s.scanFrame (s.scanSlot i) := by
  unfold State.scanSlot
  split
  · split
    · exact State.scanFrame_trans (t := s.setSlot i _) rfl (State.keyOn_frame _ i)
    · rfl
  · rfl

theorem State.foldl_scanSlot_frame (l : List (Fin 64)) (s : State) : s.scanFrame (l.foldl State.scanSlot s) := by
  induction l generalizing s with
  | nil => rfl
  | cons i l ih => exact State.scanFrame_trans (s.scanSlot_frame i) (ih _)

/-- The key scan writes registers, slots and the draw counter, nothing else. -/
theorem State.keyScan_frame (s : State) : s.scanFrame s.keyScan := State.foldl_scanSlot_frame _ s

theorem State.keyOn_slot_ne (s : State) {i j : Fin 64} (h : j ≠ i) : (s.keyOn i).slots[j] = s.slots[j] := by
  have h' : i.val ≠ j.val := fun e => h (Fin.ext e.symm)
  unfold State.keyOn State.adpcmKeyOn
  dsimp only
  split
  · split <;> simp [State.setSlot, State.setDraws, State.setReg, h']
  · simp [State.setSlot, h']

/-- A slot's turn in the scan leaves every other slot alone. -/
theorem State.scanSlot_slot_ne (s : State) {i j : Fin 64} (h : j ≠ i) : (s.scanSlot i).slots[j] = s.slots[j] := by
  have h' : i.val ≠ j.val := fun e => h (Fin.ext e.symm)
  unfold State.scanSlot
  split
  · split
    · rw [State.keyOn_slot_ne _ h, State.setSlot_slot_ne _ _ h]
    · rfl
  · simp [State.keyOff, State.setSlot, State.setReg, h']

/-! ### The slots' turns in a TICK -/

theorem Mix.slotTurn_frame (m : Mix) (i : Fin 64) : m.state.scanFrame (m.slotTurn i).state := by
  unfold Mix.slotTurn
  split
  · dsimp only
    unfold State.scanFrame
    rw [State.slotUpdate_frame]
  · rfl

theorem Mix.slotTurns_frame (m : Mix) (l : List (Fin 64)) : m.state.scanFrame (m.slotTurns l).state := by
  unfold Mix.slotTurns
  induction l generalizing m with
  | nil => rfl
  | cons i l ih => exact State.scanFrame_trans (m.slotTurn_frame i) (ih _)

/-- A slot's turn leaves every other slot alone. -/
theorem Mix.slotTurn_slot_ne (m : Mix) {i j : Fin 64} (h : j ≠ i) : (m.slotTurn i).state.slots[j] = m.state.slots[j] := by
  unfold Mix.slotTurn
  split
  · exact State.slotUpdate_slot_ne _ h
  · rfl

/-- A slot's turn writes no register word but its own word 0x00. -/
theorem Mix.slotTurn_reg_ne (m : Mix) (i : Fin 64) {a : Nat} (h : a ≠ slotReg i 0x00) :
    (m.slotTurn i).state.reg a = m.state.reg a := by
  unfold Mix.slotTurn
  split
  · exact State.slotUpdate_reg_ne _ i h
  · rfl

/-- The slots' turns leave a slot alone that is not among them. -/
theorem Mix.slotTurns_slot_notMem (m : Mix) (l : List (Fin 64)) {j : Fin 64} (h : j ∉ l) :
    (m.slotTurns l).state.slots[j] = m.state.slots[j] := by
  unfold Mix.slotTurns
  induction l generalizing m with
  | nil => rfl
  | cons i l ih =>
    rw [List.mem_cons, not_or] at h
    rw [List.foldl_cons, ih _ h.2, Mix.slotTurn_slot_ne m h.1]

/-- The slots' turns write no register word but the words 0x00 of the slots among them. -/
theorem Mix.slotTurns_reg (m : Mix) (l : List (Fin 64)) {a : Nat} (h : ∀ i ∈ l, a ≠ slotReg i 0x00) :
    (m.slotTurns l).state.reg a = m.state.reg a := by
  unfold Mix.slotTurns
  induction l generalizing m with
  | nil => rfl
  | cons i l ih =>
    rw [List.foldl_cons, ih _ fun k hk => h k (List.mem_cons_of_mem i hk),
      Mix.slotTurn_reg_ne m i (h i List.mem_cons_self)]

theorem Mix.foldl_returnTurn_state (e : List Word) (l : List Nat) (m : Mix) :
    (l.foldl (Mix.returnTurn e) m).state = m.state := by
  induction l generalizing m with
  | nil => rfl
  | cons n l ih => rw [List.foldl_cons, ih]; rfl

theorem Mix.foldl_returnTurn_sends (e : List Word) (l : List Nat) (m : Mix) :
    (l.foldl (Mix.returnTurn e) m).sends = m.sends := by
  induction l generalizing m with
  | nil => rfl
  | cons n l ih => rw [List.foldl_cons, ih]; rfl

/-- The effect returns add up (R247). -/
theorem Mix.foldl_returnTurn_acc (e : List Word) (l : List Nat) (m : Mix) :
    (l.foldl (Mix.returnTurn e) m).accL = m.accL + (l.map (m.state.returnL e)).sum ∧
      (l.foldl (Mix.returnTurn e) m).accR = m.accR + (l.map (m.state.returnR e)).sum := by
  induction l generalizing m with
  | nil => simp
  | cons n l ih =>
    rw [List.foldl_cons, List.map_cons, List.map_cons, List.sum_cons, List.sum_cons]
    obtain ⟨h1, h2⟩ := ih (m.returnTurn e n)
    rw [h1, h2]
    simp only [Mix.returnTurn]
    exact ⟨by ring, by ring⟩

/-- The mix of a TICK writes registers, slots and the draw counter, nothing else. -/
theorem State.mix_frame (s : State) (e : List Word) : s.scanFrame (s.mix e).state := by
  unfold State.mix
  rw [Mix.foldl_returnTurn_state]
  exact Mix.slotTurns_frame { state := s, accL := 0, accR := 0, sends := [] } _

/-- The mix writes no register word that is not a slot's word 0x00. -/
theorem State.mix_reg (s : State) (e : List Word) {a : Nat} (h : ∀ i, a ≠ slotReg i 0x00) :
    (s.mix e).state.reg a = s.reg a := by
  unfold State.mix
  rw [Mix.foldl_returnTurn_state]
  exact Mix.slotTurns_reg _ _ fun i _ => h i

/-- An inactive slot is left alone by the mix (R163). -/
theorem Mix.slotTurn_inactive (m : Mix) (i : Fin 64) (h : m.state.slots[i].active = false) : m.slotTurn i = m := by
  unfold Mix.slotTurn
  rw [if_neg]
  rw [h]
  decide

/-! ### Timers -/

/-- A timer's turn writes its counter, its own word and SCIPD, nothing else (R261). -/
theorem State.timerTick_frame (s : State) (k : Fin 3) :
    s.timerTick k = { s with timCnt := (s.timerTick k).timCnt, regs := (s.timerTick k).regs } := by
  unfold State.timerTick
  dsimp only
  split
  · split <;> rfl
  · rfl

theorem State.timerTick_reg (s : State) (k : Fin 3) {a : Nat} (h1 : a ≠ timerReg k) (h2 : a ≠ scipd) :
    (s.timerTick k).reg a = s.reg a := by
  unfold State.timerTick
  dsimp only
  split
  · rw [State.setReg_reg_ne _ _ h1]
    split
    · unfold State.setPending
      rw [State.setReg_reg_ne _ _ h2]
      rfl
    · rfl
  · rfl

theorem State.timersTick_frame (s : State) :
    s.timersTick = { s with timCnt := s.timersTick.timCnt, regs := s.timersTick.regs } := by
  unfold State.timersTick
  rw [State.timerTick_frame, State.timerTick_frame (s.timerTick 0), State.timerTick_frame s]

/-- The timers write no register word but their own and SCIPD. -/
theorem State.timersTick_reg (s : State) {a : Nat} (h : ∀ k, a ≠ timerReg k) (h2 : a ≠ scipd) :
    s.timersTick.reg a = s.reg a := by
  unfold State.timersTick
  rw [State.timerTick_reg _ 2 (h 2) h2, State.timerTick_reg _ 1 (h 1) h2, State.timerTick_reg _ 0 (h 0) h2]

end Sys2Proof.Machine
end

