-- ==== Sys2Proof/Laws/PerInstr.lean ====
section
/-! SUPPORT. The transaction key of every operation (spec/30_encoding.md R80, R81, R90), one lemma per constructor. -/

namespace Sys2Proof.Laws

open Sys2Proof

/-- The op code of R80's table. -/
def opCodeOf : Instr → Nat
  | .r16RefuseOdd _ => 0
  | .r16RefuseWindow _ => 0
  | .r16Slot _ => 0
  | .r16Efspan _ => 0
  | .r16Unmapped _ => 0
  | .r16Refused _ => 0
  | .r16Monitor _ => 0
  | .r16Common _ => 0
  | .r16Irqreg _ => 0
  | .w16RefuseOdd _ _ _ => 1
  | .w16RefuseWindow _ _ _ => 1
  | .w16SlotCtrl _ _ _ => 1
  | .w16SlotEgrel _ _ _ => 1
  | .w16SlotPitch _ _ _ => 1
  | .w16SlotLfo _ _ _ => 1
  | .w16SlotSa _ _ _ => 1
  | .w16SlotLsa _ _ _ => 1
  | .w16SlotLea _ _ _ => 1
  | .w16SlotEgrate _ _ _ => 1
  | .w16SlotDspsend _ _ _ => 1
  | .w16SlotDirect _ _ _ => 1
  | .w16SlotTl _ _ _ => 1
  | .w16SlotStore _ _ _ => 1
  | .w16Efspan _ _ _ => 1
  | .w16Unmapped _ _ _ => 1
  | .w16Refused _ _ _ => 1
  | .w16Monitor _ _ _ => 1
  | .w16Timer _ _ _ => 1
  | .w16Scire _ _ => 1
  | .w16Common _ _ _ => 1
  | .w16Irql _ _ => 1
  | .w16Irqr _ _ => 1
  | .tick _ => 2
  | .fadeConfigure _ _ => 3
  | .fadeAdvance _ _ => 4
  | .fadeCount => 5
  | .fadeTotal => 6
  | .reset => 7
  | .midiNotify _ => 8
  | .reserved op _ => op.toNat

/-- The key carries the op code in K[19:16]; a defined op code other than R16 and W16 has K[15:0] = 0 (R81). -/
def KeyLayout.Statement (i : Instr) : Prop :=
  i.wf = true → ((encode i).key.extractLsb' 16 4).toNat = opCodeOf i ∧
    (2 ≤ opCodeOf i → opCodeOf i ≤ 8 → (encode i).key.extractLsb' 0 16 = 0)

theorem mkKey_op (op : BitVec 4) (a : Word) : (mkKey op a).extractLsb' 16 4 = op := by
  unfold mkKey
  refine BitVec.eq_of_getLsbD_eq fun k hk => ?_
  rw [BitVec.getLsbD_extractLsb', BitVec.getLsbD_append]
  simp [hk]

theorem mkKey_low (op : BitVec 4) (a : Word) : (mkKey op a).extractLsb' 0 16 = a := by
  unfold mkKey
  refine BitVec.eq_of_getLsbD_eq fun k hk => ?_
  rw [BitVec.getLsbD_extractLsb', BitVec.getLsbD_append]
  simp [hk]

theorem KeyLayout.of_key {i : Instr} {op : BitVec 4} {a : Word} (h : (encode i).key = mkKey op a)
    (ho : op.toNat = opCodeOf i) (hl : i.wf = true → 2 ≤ opCodeOf i → opCodeOf i ≤ 8 → a = 0) :
    KeyLayout.Statement i := by
  intro hw
  rw [h, mkKey_op, mkKey_low]
  exact ⟨ho, hl hw⟩

theorem KeyLayout.r16RefuseOdd (a : Word) : KeyLayout.Statement (.r16RefuseOdd a) :=
  KeyLayout.of_key rfl rfl (fun _ h _ => absurd h (Nat.not_le_of_lt Nat.two_pos))

theorem KeyLayout.r16RefuseWindow (a : Word) : KeyLayout.Statement (.r16RefuseWindow a) :=
  KeyLayout.of_key rfl rfl (fun _ h _ => absurd h (Nat.not_le_of_lt Nat.two_pos))

theorem KeyLayout.r16Slot (a : Word) : KeyLayout.Statement (.r16Slot a) :=
  KeyLayout.of_key rfl rfl (fun _ h _ => absurd h (Nat.not_le_of_lt Nat.two_pos))

theorem KeyLayout.r16Efspan (a : Word) : KeyLayout.Statement (.r16Efspan a) :=
  KeyLayout.of_key rfl rfl (fun _ h _ => absurd h (Nat.not_le_of_lt Nat.two_pos))

theorem KeyLayout.r16Unmapped (a : Word) : KeyLayout.Statement (.r16Unmapped a) :=
  KeyLayout.of_key rfl rfl (fun _ h _ => absurd h (Nat.not_le_of_lt Nat.two_pos))

theorem KeyLayout.r16Refused (a : Word) : KeyLayout.Statement (.r16Refused a) :=
  KeyLayout.of_key rfl rfl (fun _ h _ => absurd h (Nat.not_le_of_lt Nat.two_pos))

theorem KeyLayout.r16Monitor (a : Word) : KeyLayout.Statement (.r16Monitor a) :=
  KeyLayout.of_key rfl rfl (fun _ h _ => absurd h (Nat.not_le_of_lt Nat.two_pos))

theorem KeyLayout.r16Common (a : Word) : KeyLayout.Statement (.r16Common a) :=
  KeyLayout.of_key rfl rfl (fun _ h _ => absurd h (Nat.not_le_of_lt Nat.two_pos))

theorem KeyLayout.r16Irqreg (a : Word) : KeyLayout.Statement (.r16Irqreg a) :=
  KeyLayout.of_key rfl rfl (fun _ h _ => absurd h (Nat.not_le_of_lt Nat.two_pos))

theorem KeyLayout.w16RefuseOdd (a v m : Word) : KeyLayout.Statement (.w16RefuseOdd a v m) :=
  KeyLayout.of_key rfl rfl (fun _ h _ => absurd h (Nat.not_le_of_lt Nat.one_lt_two))

theorem KeyLayout.w16RefuseWindow (a v m : Word) : KeyLayout.Statement (.w16RefuseWindow a v m) :=
  KeyLayout.of_key rfl rfl (fun _ h _ => absurd h (Nat.not_le_of_lt Nat.one_lt_two))

theorem KeyLayout.w16SlotCtrl (s : Fin 64) (v m : Word) : KeyLayout.Statement (.w16SlotCtrl s v m) :=
  KeyLayout.of_key rfl rfl (fun _ h _ => absurd h (Nat.not_le_of_lt Nat.one_lt_two))

theorem KeyLayout.w16SlotEgrel (s : Fin 64) (v m : Word) : KeyLayout.Statement (.w16SlotEgrel s v m) :=
  KeyLayout.of_key rfl rfl (fun _ h _ => absurd h (Nat.not_le_of_lt Nat.one_lt_two))

theorem KeyLayout.w16SlotPitch (s : Fin 64) (v m : Word) : KeyLayout.Statement (.w16SlotPitch s v m) :=
  KeyLayout.of_key rfl rfl (fun _ h _ => absurd h (Nat.not_le_of_lt Nat.one_lt_two))

theorem KeyLayout.w16SlotLfo (s : Fin 64) (v m : Word) : KeyLayout.Statement (.w16SlotLfo s v m) :=
  KeyLayout.of_key rfl rfl (fun _ h _ => absurd h (Nat.not_le_of_lt Nat.one_lt_two))

theorem KeyLayout.w16SlotSa (s : Fin 64) (v m : Word) : KeyLayout.Statement (.w16SlotSa s v m) :=
  KeyLayout.of_key rfl rfl (fun _ h _ => absurd h (Nat.not_le_of_lt Nat.one_lt_two))

theorem KeyLayout.w16SlotLsa (s : Fin 64) (v m : Word) : KeyLayout.Statement (.w16SlotLsa s v m) :=
  KeyLayout.of_key rfl rfl (fun _ h _ => absurd h (Nat.not_le_of_lt Nat.one_lt_two))

theorem KeyLayout.w16SlotLea (s : Fin 64) (v m : Word) : KeyLayout.Statement (.w16SlotLea s v m) :=
  KeyLayout.of_key rfl rfl (fun _ h _ => absurd h (Nat.not_le_of_lt Nat.one_lt_two))

theorem KeyLayout.w16SlotEgrate (s : Fin 64) (v m : Word) : KeyLayout.Statement (.w16SlotEgrate s v m) :=
  KeyLayout.of_key rfl rfl (fun _ h _ => absurd h (Nat.not_le_of_lt Nat.one_lt_two))

theorem KeyLayout.w16SlotDspsend (s : Fin 64) (v m : Word) : KeyLayout.Statement (.w16SlotDspsend s v m) :=
  KeyLayout.of_key rfl rfl (fun _ h _ => absurd h (Nat.not_le_of_lt Nat.one_lt_two))

theorem KeyLayout.w16SlotDirect (s : Fin 64) (v m : Word) : KeyLayout.Statement (.w16SlotDirect s v m) :=
  KeyLayout.of_key rfl rfl (fun _ h _ => absurd h (Nat.not_le_of_lt Nat.one_lt_two))

theorem KeyLayout.w16SlotTl (s : Fin 64) (v m : Word) : KeyLayout.Statement (.w16SlotTl s v m) :=
  KeyLayout.of_key rfl rfl (fun _ h _ => absurd h (Nat.not_le_of_lt Nat.one_lt_two))

theorem KeyLayout.w16SlotStore (a v m : Word) : KeyLayout.Statement (.w16SlotStore a v m) :=
  KeyLayout.of_key rfl rfl (fun _ h _ => absurd h (Nat.not_le_of_lt Nat.one_lt_two))

theorem KeyLayout.w16Efspan (a v m : Word) : KeyLayout.Statement (.w16Efspan a v m) :=
  KeyLayout.of_key rfl rfl (fun _ h _ => absurd h (Nat.not_le_of_lt Nat.one_lt_two))

theorem KeyLayout.w16Unmapped (a v m : Word) : KeyLayout.Statement (.w16Unmapped a v m) :=
  KeyLayout.of_key rfl rfl (fun _ h _ => absurd h (Nat.not_le_of_lt Nat.one_lt_two))

theorem KeyLayout.w16Refused (a v m : Word) : KeyLayout.Statement (.w16Refused a v m) :=
  KeyLayout.of_key rfl rfl (fun _ h _ => absurd h (Nat.not_le_of_lt Nat.one_lt_two))

theorem KeyLayout.w16Monitor (a v m : Word) : KeyLayout.Statement (.w16Monitor a v m) :=
  KeyLayout.of_key rfl rfl (fun _ h _ => absurd h (Nat.not_le_of_lt Nat.one_lt_two))

theorem KeyLayout.w16Timer (k : Fin 3) (v m : Word) : KeyLayout.Statement (.w16Timer k v m) :=
  KeyLayout.of_key rfl rfl (fun _ h _ => absurd h (Nat.not_le_of_lt Nat.one_lt_two))

theorem KeyLayout.w16Scire (v m : Word) : KeyLayout.Statement (.w16Scire v m) :=
  KeyLayout.of_key rfl rfl (fun _ h _ => absurd h (Nat.not_le_of_lt Nat.one_lt_two))

theorem KeyLayout.w16Common (a v m : Word) : KeyLayout.Statement (.w16Common a v m) :=
  KeyLayout.of_key rfl rfl (fun _ h _ => absurd h (Nat.not_le_of_lt Nat.one_lt_two))

theorem KeyLayout.w16Irql (v m : Word) : KeyLayout.Statement (.w16Irql v m) :=
  KeyLayout.of_key rfl rfl (fun _ h _ => absurd h (Nat.not_le_of_lt Nat.one_lt_two))

theorem KeyLayout.w16Irqr (v m : Word) : KeyLayout.Statement (.w16Irqr v m) :=
  KeyLayout.of_key rfl rfl (fun _ h _ => absurd h (Nat.not_le_of_lt Nat.one_lt_two))

theorem KeyLayout.tick (efreg : List Word) : KeyLayout.Statement (.tick efreg) :=
  KeyLayout.of_key rfl rfl (fun _ _ _ => rfl)

theorem KeyLayout.fadeConfigure (lengthS fadeS : BitVec 64) : KeyLayout.Statement (.fadeConfigure lengthS fadeS) :=
  KeyLayout.of_key rfl rfl (fun _ _ _ => rfl)

theorem KeyLayout.fadeAdvance (l r : Word) : KeyLayout.Statement (.fadeAdvance l r) :=
  KeyLayout.of_key rfl rfl (fun _ _ _ => rfl)

theorem KeyLayout.fadeCount : KeyLayout.Statement (.fadeCount) :=
  KeyLayout.of_key rfl rfl (fun _ _ _ => rfl)

theorem KeyLayout.fadeTotal : KeyLayout.Statement (.fadeTotal) :=
  KeyLayout.of_key rfl rfl (fun _ _ _ => rfl)

theorem KeyLayout.reset : KeyLayout.Statement (.reset) :=
  KeyLayout.of_key rfl rfl (fun _ _ _ => rfl)

theorem KeyLayout.midiNotify (p : Bool) : KeyLayout.Statement (.midiNotify p) :=
  KeyLayout.of_key rfl rfl (fun _ _ _ => rfl)

/-- A reserved key may carry any low half; op codes 9 to 15 are the well-formed ones (R90). -/
theorem KeyLayout.reserved (op : BitVec 4) (low : Word) : KeyLayout.Statement (.reserved op low) :=
  KeyLayout.of_key rfl rfl (fun hw _ h8 => by
    have h9 : 9 ≤ op.toNat := by simpa [Instr.wf] using hw
    have h8' : op.toNat ≤ 8 := h8
    omega)

end Sys2Proof.Laws
end

