-- ==== Sys2Proof/Tests/Slice0.lean ====
section
/-! SUPPORT. Tests: ill-formed terms refused, keys written out from the spec's encoding, the spec's own vectors (one step
each; spec/95_test_vectors.md names the vector), table entries the rules list, and for every obligation with hypotheses a
state and operands that meet them. -/

namespace Sys2Proof.Tests

open Sys2Proof Sys2Proof.Machine

-- One theorem at a time: a hundred kernel evaluations side by side hold more thread stacks than the sandbox has.
set_option Elab.async false

/-- The state after the operations of a list; every operation gives a next state. -/
def after (l : List Instr) (s : State) : State :=
  match runOps l s with
  | .next t => t
  | .fault _ => s
  | .refused _ => s

/-- Bytes of wave RAM from address `a` on. -/
def withRam (s : State) (a : Nat) (bytes : List Byte) : State :=
  bytes.zipIdx.foldl (fun t x => t.pokeRam (a + x.2) x.1) s

/-- Full-word writes, from State.reset. -/
def written (l : List (Word × Word)) : State := after (l.map fun x => asmW16 x.1 x.2) State.reset

/-- A TICK with silent effect outputs. -/
def quiet : List Word := List.replicate 16 0

/-- Slot 1 keyed on as in V-X2 (SA 0x10100, LEA 0x10, normal loop, AR 31, KRS 0xF, RR 31, DISDL 15) with format `pcms`. -/
def voice (pcms : Word) : State :=
  written [(0x0084, 0x0100), (0x0088, 4), (0x008C, 0x10), (0x0090, 0x001F), (0x0094, 0x3C1F), (0x0098, 0), (0x00A4, 0x0F00),
    (0x0080, 0xC201 ||| (pcms <<< 7))]

/-- The same state of a 2 MiB instance. -/
def small (s : State) : State := { s with params := { s.params with ramSize := .mib2 } }

/-- That slot with its EG in state `st` at volume `v`. -/
def voiceIn (st : EgState) (v : Int) : State :=
  let s := voice 0
  s.setSlot 1 { s.slots[1] with eg := { s.slots[1].eg with state := st, volume := v } }

/-! ### Ill-formed terms -/

theorem test_wf_refuses_reads :
    (Instr.r16RefuseOdd 0x0010).wf = false ∧ (Instr.r16RefuseWindow 0x7FFE).wf = false ∧
      (Instr.r16Slot 0x2000).wf = false ∧ (Instr.r16Slot 0x0001).wf = false ∧ (Instr.r16Efspan 0x2046).wf = false ∧
      (Instr.r16Unmapped 0x2D00).wf = false ∧ (Instr.r16Refused 0x2810).wf = false ∧
      (Instr.r16Monitor 0x2812).wf = false ∧ (Instr.r16Common 0x2880).wf = false ∧ (Instr.r16Irqreg 0x2D02).wf = false := by
  decide

theorem test_wf_refuses_writes :
    (Instr.w16RefuseOdd 0 0 0).wf = false ∧ (Instr.w16RefuseWindow 0x8001 0 0).wf = false ∧
      (Instr.w16SlotStore 0x0094 0 0).wf = false ∧ (Instr.w16SlotStore 0x2002 0 0).wf = false ∧
      (Instr.w16Efspan 0x1FFE 0 0).wf = false ∧ (Instr.w16Unmapped 0x2044 0 0).wf = false ∧
      (Instr.w16Refused 0x2890 0 0).wf = false ∧ (Instr.w16Monitor 0x28B4 0 0).wf = false ∧
      (Instr.w16Common 0x2890 0 0).wf = false ∧ (Instr.w16Common 0x28A4 0 0).wf = false := by
  decide

theorem test_wf_refuses_others :
    (Instr.tick []).wf = false ∧ (Instr.tick (List.replicate 17 0)).wf = false ∧ (Instr.reserved 8 0).wf = false := by
  decide

/-! ### Decoding: keys of V-E1 and V-E2, R81's pattern oooo aaaa aaaa aaaa aaaa -/

theorem test_decode_reads :
    decodeTableWord 24 0b0000_0000_0000_0000_0001 = some (.r16RefuseOdd 0x0001) ∧
    decodeTableWord 24 0b0000_1000_0000_0000_0000 = some (.r16RefuseWindow 0x8000) ∧
    decodeTableWord 24 0b0000_0001_1111_1000_0000 = some (.r16Slot 0x1F80) ∧
    decodeTableWord 24 0b0000_0010_0000_0100_0100 = some (.r16Efspan 0x2044) ∧
    decodeTableWord 24 0b0000_0010_0111_1111_1110 = some (.r16Unmapped 0x27FE) ∧
    decodeTableWord 24 0b0000_0010_1000_1000_1110 = some (.r16Refused 0x288E) ∧
    decodeTableWord 24 0b0000_0010_1000_1011_1000 = some (.r16Monitor 0x28B8) ∧
    decodeTableWord 24 0b0000_0010_1000_1001_0000 = some (.r16Common 0x2890) ∧
    decodeTableWord 24 0b0000_0010_1101_0000_0100 = some (.r16Irqreg 0x2D04) := by
  decide

theorem test_decode_slot_writes :
    decodeTableWord 24 0b0001_0001_1111_1000_0000 = some (.w16SlotCtrl 63 0 0xFFFF) ∧
    decodeTableWord 24 0b0001_0000_0000_0001_0100 = some (.w16SlotEgrel 0 0 0xFFFF) ∧
    decodeTableWord 24 0b0001_0000_0000_1001_1000 = some (.w16SlotPitch 1 0 0xFFFF) ∧
    decodeTableWord 24 0b0001_0000_0001_0001_1100 = some (.w16SlotLfo 2 0 0xFFFF) ∧
    decodeTableWord 24 0b0001_0000_0000_1000_0100 = some (.w16SlotSa 1 0 0xFFFF) ∧
    decodeTableWord 24 0b0001_0000_0000_0000_1000 = some (.w16SlotLsa 0 0 0xFFFF) ∧
    decodeTableWord 24 0b0001_0000_0000_0000_1100 = some (.w16SlotLea 0 0 0xFFFF) ∧
    decodeTableWord 24 0b0001_0000_0000_0001_0000 = some (.w16SlotEgrate 0 0 0xFFFF) ∧
    decodeTableWord 24 0b0001_0000_0000_0010_0000 = some (.w16SlotDspsend 0 0 0xFFFF) ∧
    decodeTableWord 24 0b0001_0000_0000_0010_0100 = some (.w16SlotDirect 0 0 0xFFFF) ∧
    decodeTableWord 24 0b0001_0000_0000_0010_1000 = some (.w16SlotTl 0 0 0xFFFF) ∧
    decodeTableWord 24 0b0001_0000_0000_0111_1110 = some (.w16SlotStore 0x007E 0 0xFFFF) := by
  decide

theorem test_decode_other_writes :
    decodeTableWord 24 0b0001_0000_0000_0000_0001 = some (.w16RefuseOdd 0x0001 0 0xFFFF) ∧
    decodeTableWord 24 0b0001_1111_1111_1111_1110 = some (.w16RefuseWindow 0xFFFE 0 0xFFFF) ∧
    decodeTableWord 24 0b0001_0010_0000_0000_0000 = some (.w16Efspan 0x2000 0 0xFFFF) ∧
    decodeTableWord 24 0b0001_0010_1101_0000_1000 = some (.w16Unmapped 0x2D08 0 0xFFFF) ∧
    decodeTableWord 24 0b0001_0111_1111_1111_1110 = some (.w16Refused 0x7FFE 0 0xFFFF) ∧
    decodeTableWord 24 0b0001_0010_1000_0001_0000 = some (.w16Monitor 0x2810 0 0xFFFF) ∧
    decodeTableWord 24 0b0001_0010_1000_1001_1000 = some (.w16Timer 2 0 0xFFFF) ∧
    decodeTableWord 24 0b0001_0010_1000_1010_0100 = some (.w16Scire 0 0xFFFF) ∧
    decodeTableWord 24 0b0001_0010_1000_1010_0000 = some (.w16Common 0x28A0 0 0xFFFF) ∧
    decodeTableWord 24 0b0001_0010_1101_0000_0000 = some (.w16Irql 0 0xFFFF) ∧
    decodeTableWord 24 0b0001_0010_1101_0000_0100 = some (.w16Irqr 0 0xFFFF) := by
  decide

theorem test_decode_calls :
    decodeTableWord 24 0b0010_0000_0000_0000_0000 = some (.tick quiet) ∧
    decodeTableWord 24 0b0011_0000_0000_0000_0000 = some (.fadeConfigure 0 0) ∧
    decodeTableWord 24 0b0100_0000_0000_0000_0000 = some (.fadeAdvance 0 0) ∧
    decodeTableWord 24 0b0101_0000_0000_0000_0000 = some .fadeCount ∧
    decodeTableWord 24 0b0110_0000_0000_0000_0000 = some .fadeTotal ∧
    decodeTableWord 24 0b0111_0000_0000_0000_0000 = some .reset ∧
    decodeTableWord 24 0b1000_0000_0000_0000_0000 = some (.midiNotify false) ∧
    decodeTableWord 24 0b1111_0000_0000_0000_0000 = some (.reserved 15 0) := by
  decide

/-- Operand words beside the key: V-E2's `W16 0x0084, v` with m = 0xFF00 (complement 0x00FF), a MIDI_NOTIFY 1, and the f64
pattern 0x4000000000000000 of 2.0 seconds, least significant word first (assumption log 2). -/
theorem test_decode_operands :
    decode { key := 0x10084, data := [0x1234, 0x00FF] } = .ok (.w16SlotSa 1 0x1234 0xFF00) ∧
    decode { key := 0x80000, data := [1] } = .ok (.midiNotify true) ∧
    decode { key := 0x30000, data := [0, 0, 0, 0x4000, 0, 0, 0, 0x3FF0] } =
      .ok (.fadeConfigure 0x4000000000000000 0x3FF0000000000000) := by
  decide

/-- Transactions that are no operation (assumption log 3). -/
theorem test_decode_rejects :
    decode { key := 0x70001, data := [] } = .error .addressBits ∧
    decode { key := 0x10000, data := [0] } = .error .missingOperand ∧
    decode { key := 0x00000, data := [1] } = .error .strayOperand ∧
    decode { key := 0x80000, data := [2] } = .error .notBool := by
  decide

/-! ### Tables: the entries that R151, R152, R221 to R224 and R242 list (V-G1, V-L1, V-X1) -/

theorem test_eg_table :
    [0, 252, 253, 383, 512, 600, 700, 767, 800, 900, 960, 1000, 1010, 1020, 1021, 1022, 1023].map egEntry =
      [0, 0, 1, 4, 16, 42, 125, 258, 369, 1085, 2075, 3195, 3559, 3965, 4008, 4052, 4096] := by
  decide +kernel

theorem test_rate_tables :
    [0, 1, 2, 8, 20, 40, 60, 61, 62, 63].map (arEntry .frac10) = [0, 0, 2, 7, 62, 1979, 59385, 67868, 1048576, 1048576] ∧
    [0, 11, 12, 13, 20, 40, 60, 62, 63].map (drEntry .frac10) = [0, 0, 1, 1, 4, 139, 4398, 6598, 7662] ∧
    [2, 61, 63].map (arEntry .frac16) = [187, 4343591, 67108864] ∧ [2, 63].map (drEntry .frac16) = [12, 490405] := by
  decide +kernel

theorem test_lfo_tables :
    [0, 7, 8, 15, 16, 23, 24, 31].map lfoStep = [0, 0, 1, 3, 4, 16, 21, 307] ∧
    [0, 128, 129, 130, 131, 255].map (pscales 7) = [192, 256, 256, 257, 257, 339] ∧
    [0, 128, 255].map (pscales 1) = [254, 256, 257] ∧
    [0, 128, 254, 255].map (ascales 7) = [256, 64, 16, 16] ∧ [0, 251, 253, 255].map (ascales 1) = [256, 244, 244, 244] := by
  decide +kernel

theorem test_waveforms :
    [0, 1, 127, 128, 255].map ampSaw = [255, 254, 128, 127, 0] ∧
    [0, 1, 127, 128, 255].map ampTri = [255, 253, 1, 0, 254] ∧
    [0, 1, 63, 64, 127, 128, 191, 192, 255].map pitchSaw = [0, 1, 63, 64, 127, -128, -65, -64, -1] ∧
    [0, 1, 63, 64, 127, 128, 191, 192, 255].map pitchTri = [0, 2, 126, 127, 1, 0, -126, -127, -1] ∧
    [127, 128].map pitchSquare = [127, -128] ∧ [127, 128].map ampSquare = [255, 0] := by
  decide +kernel

theorem test_pan_tables :
    (List.range 16).map (lpan 0 0) =
      [0, 130, 183, 259, 366, 518, 731, 1033, 1460, 2062, 2913, 4115, 5813, 8211, 11598, 16384] ∧
    [0x01, 0x02, 0x04, 0x08, 0x10, 0x20, 0x40, 0x80, 0x3F, 0xFF].map (fun t => lpan t 0 15) =
      [15646, 14942, 13785, 11598, 8211, 4115, 1033, 65, 1070, 0] ∧
    (lpan 0x40 4 12, rpan 0x40 4 12) = (92, 366) ∧ (lpan 0 31 10, rpan 0 31 10) = (2913, 0) ∧
    (lpan 0 15 15, rpan 0 15 15) = (0, 16384) := by
  decide +kernel

/-- R10, D31: an instance reads the entries it is built with; the key-on of `test_keyOn_rates`' first row, R191's quantiser. -/
theorem test_given_tables :
    let tables := { Tables.reference with ar := .given (Vector.replicate 64 5), quantScale := .given (Vector.replicate 8 512) }
    let s := { State.reset with params := { State.reset.params with tables := tables } }
    (after [asmW16 0x0014 0x3C00, asmW16 0x0010 31, asmW16 0x0000 0xC000] s).slots[0].eg.ar = 5 ∧
      adpcmStep s.params { sample := 0, quant := 0x7F } 0 = { sample := 15, quant := 254 } := by
  decide +kernel

/-! ### Register access -/

/-- V-M1. -/
theorem test_w16SlotStore_merges_bytes :
    (after [asmW16 0x002C 0x1234, asmW16H 0x002C 0xAB00] State.reset).reg 0x002C = 0xAB34 ∧
      (after [asmW16 0x002C 0x1234, asmW16H 0x002C 0xAB00, asmW16L 0x002C 0xFFCD] State.reset).reg 0x002C = 0xABCD := by
  decide +kernel

/-- R121's and R122's examples, and R124's. -/
theorem test_r16_stored :
    (after [asmW16 0x0088 0x1234, asmR16 0x0088] State.reset).result = .word 0x1234 ∧
    (after [asmW16 0x2004 0x0F1F, asmR16 0x2004] State.reset).result = .word 0x0F1F ∧
    (after [asmW16 0x2890 0x0340, asmR16 0x2890] State.reset).result = .word 0x0340 ∧
    (after [asmR16 0x2D04] State.reset).result = .word 0 := by
  decide +kernel

/-- V-M2: an unmapped write stores nothing and marks nothing. -/
theorem test_w16Unmapped_drops : (written [(0x2046, 0x0055)]).regs = [] ∧ (written [(0x2046, 0x0055)]).refused = false := by
  decide +kernel

/-- V-E3: the order of the reasons. -/
theorem test_refusal_precedence :
    (after [decodeWrite 0x0001 0 0x0F0F] State.reset).result = .refused .oddOffset ∧
    (after [decodeWrite 0x002C 0 0x0F0F] State.reset).result = .refused .badByteEnable ∧
    (after [decodeWrite 0x002C 0 0] State.reset).result = .refused .badByteEnable ∧
    (after [decodeWrite 0x2808 0 0xFFFF] State.reset).result = .refused (.outOfScopeRegister 0x2808) ∧
    (after [asmR16 0x8000] State.reset).result = .refused .offsetOutOfWindow ∧
    (after [Instr.reserved 9 0] State.reset).result = .refused .reservedOp := by
  decide +kernel

/-- R304: RESET keeps the mark. -/
theorem test_reset_keeps_refused : (after [Instr.reserved 15 0, .reset] State.reset).refused = true := by
  decide +kernel

/-- V-M6. -/
theorem test_w16SlotEgrel :
    (written [(0x0014, 0x3C1F)]).slots[0].eg.rr = 6598 ∧ (written [(0x0014, 0x3C1F)]).slots[0].eg.dl = 31 ∧
      (written [(0x0014, 0x0025)]).slots[0].eg.rr = 0 ∧ (written [(0x0014, 0x0025)]).slots[0].eg.dl = 30 := by
  decide +kernel

/-- V-W1. -/
theorem test_w16SlotPitch :
    [0x0000, 0x0800, 0x3BFF, 0x4000, 0x6001, 0x6BFF, 0x7000, 0x7A00].map (fun w => (written [(0x0018, w)]).slots[0].step) =
      [0x1000, 0x2000, 0xFFE00, 0x10, 0x100, 0x3FF, 0x400, 0xC00] := by
  decide +kernel

/-- R135's example. -/
theorem test_w16SlotLfo :
    (written [(0x001C, 0x7C07)]).slots[0].alfo = { phase := 0, phaseStep := 307, wave := .saw, depth := 7 } ∧
      (written [(0x001C, 0x7C07)]).slots[0].plfo = Lfo.idle := by
  decide +kernel

/-! ### Key-on and key-off -/

/-- R125's example: the slot is started, and KYONEX reads 0. -/
theorem test_w16SlotCtrl_starts :
    (written [(0x0080, 0xC000)]).slots[1].active = true ∧ (written [(0x0080, 0xC000)]).slots[1].eg.state = .attack ∧
      (written [(0x0080, 0xC000)]).slots[0].active = false ∧ (written [(0x0080, 0xC000)]).reg 0x0080 = 0x4000 := by
  decide +kernel

/-- R130's example: step 0x1000 and volume 0x17F << 10. -/
theorem test_keyOn_volume :
    (written [(0x0080, 0xC000)]).slots[1].step = 0x1000 ∧ (written [(0x0080, 0xC000)]).slots[1].eg.volume = 0x5FC00 := by
  decide +kernel

/-- V-G2: the attack step latched at key-on, by (word 0x18, word 0x14, word 0x10). -/
theorem test_keyOn_rates :
    [((0x0000 : Word), (0x3C00 : Word), (31 : Word)), (0, 0, 10), (0x4000, 0, 4), (0x4000, 0, 5), (0x3A00, 0x3800, 14),
        (0x7800, 0x0400, 3), (0, 0, 0)].map
      (fun x => (written [(0x0018, x.1), (0x0014, x.2.1), (0x0010, x.2.2), (0x0000, 0xC000)]).slots[0].eg.ar) =
    [1048576, 62, 0, 2, 1048576, 6, 0] := by
  decide +kernel

/-- V-A1: the loop cache after 16 nibbles; R131's sentinel. -/
theorem test_keyOn_adpcm :
    let s := after [asmW16 0x0004 0x1000, asmW16 0x0008 16, asmW16 0x0000 0xC100]
      (withRam State.reset 0x1000 [0x07, 0x77, 0x00, 0x88, 0xF7, 0x31, 0x5C, 0x9A])
    s.slots[0].ad.lpSample = -22 ∧ s.slots[0].ad.lpQuant = 7319 ∧ s.reg 0x000C = 0xFFFF := by
  decide +kernel

/-- V-A2. -/
theorem test_adpcmStep :
    adpcmStep State.reset.params { sample := 32000, quant := 0x6000 } 7 = { sample := 32767, quant := 24576 } ∧
      adpcmStep State.reset.params { sample := 100, quant := 0x80 } 8 = { sample := 84, quant := 127 } ∧
      adpcmStep State.reset.params { sample := 0, quant := 0x7F } 9 = { sample := -47, quant := 127 } := by
  decide

/-! ### TICK -/

/-- V-M3: little-endian samples at an odd address. -/
theorem test_tick_pcm16 :
    let s := after [asmW16 0x0004 0x1001, asmW16 0x000C 3, asmW16 0x0010 0x001F, asmW16 0x0014 0x3C1F, asmW16 0x0024 0x0F00,
        asmW16 0x0000 0xC000, .tick quiet] (withRam State.reset 0x1001 [0x34, 0x12, 0xCC, 0xED])
    s.result = .tick 2327 2327 [(0, 0)] ∧ (after [.tick quiet] s).result = .tick (-2328) (-2328) [(0, 0)] := by
  decide +kernel

/-- V-X4. -/
theorem test_tick_effect_returns :
    (after [asmW16 0x2000 0x0F00, asmW16 0x2004 0x0A1F, .tick (1000 :: 1000 :: List.replicate 14 0)] State.reset).result =
        .tick 588 500 [] ∧
      (after [asmW16 0x2040 0x0F00, .tick (List.replicate 16 1000)] State.reset).result = .tick 0 0 [] := by
  decide +kernel

/-- V-W8: a frozen slot gives 0 and stays as it was. -/
theorem test_tick_frozen :
    let s := after [asmW16 0x0080 0x4601] (voice 0)
    (after [.tick quiet] s).result = .tick 0 0 [(0, 0)] ∧ (after [.tick quiet] s).slots[1] = s.slots[1] := by
  decide +kernel

/-- V-L2: the pitch LFO's third tick. -/
theorem test_tick_pitch_lfo :
    let s := after [asmW16 0x009C 0x7CE0, asmW16 0x008C 0x80, .tick quiet, .tick quiet, .tick quiet] (voice 0)
    s.slots[1].plfo.phase = 921 ∧ s.slots[1].curAddr = 0x3020 := by
  decide +kernel

/-- V-G3's first row: DECAY1 is skipped. -/
theorem test_tick_skip_decay1 :
    let s := written [(0x000C, 0x100), (0x0010, 0x0FDF), (0x0014, 0x3C1F), (0x0000, 0xC000)]
    (after [.tick quiet] s).slots[0].eg.state = .decay2 ∧ (after [.tick quiet] s).slots[0].eg.volume = 0xFFC00 := by
  decide +kernel

/-- V-W6: one subtraction of the loop length per tick. -/
theorem test_tick_wrap :
    let s := written [(0x0008, 2), (0x000C, 4), (0x0010, 0x001F), (0x0018, 0x1000), (0x0000, 0xC280)]
    (after [.tick quiet] s).slots[0].curAddr = 0x2000 ∧ (after [.tick quiet, .tick quiet] s).slots[0].curAddr = 0x4000 := by
  decide +kernel

/-! ### Timers and interrupt line -/

/-- R262's example and V-T1: a timer at 0xFF fires on the first tick. -/
theorem test_w16Timer_fires :
    (written [(0x2890, 0x00FE)]).timCnt[0] = 0xFE00 ∧
      (after [.tick quiet] (written [(0x2890, 0x00FE)])).reg 0x28A0 = 0x0040 ∧
      (after [.tick quiet] (written [(0x2894, 0x07FF)])).reg 0x2894 = 0x07FF := by
  decide +kernel

/-- V-T2: B outranks C, and SCIRE deasserts. -/
theorem test_w16Scire_acknowledges :
    let s := after [.tick quiet] (written [(0x289C, 0x0180), (0x2894, 0x00FF), (0x2898, 0x00FF)])
    (s.irq = true ∧ s.irqSrc = .timb ∧ s.reg 0x28A0 = 0x0180) ∧
      (after [asmW16 0x28A4 0x0080] s).irq = false ∧ (after [asmW16 0x28A4 0x0080] s).reg 0x28A0 = 0x0100 ∧
      (after [asmW16 0x28A4 0x0080, .tick quiet] s).irqSrc = .timc := by
  decide +kernel

/-- V-T3: IRQR deasserts when it is not 0. -/
theorem test_w16Irqr_deasserts :
    let s := after [.tick quiet] (written [(0x289C, 0x0040), (0x2890, 0x00FF)])
    (after [asmW16 0x2D04 0x0000] s).irq = true ∧ (after [asmW16 0x2D04 0x0001] s).irq = false ∧
      (after [asmW16 0x2D04 0x0001] s).reg 0x28A0 = 0x0040 := by
  decide +kernel

/-- V-T4. -/
theorem test_midiNotify : (after [.midiNotify true] State.reset).irq = true ∧
    (after [.midiNotify true] State.reset).irqSrc = .midi ∧
    (after [.midiNotify true, .midiNotify false] State.reset).irq = true := by
  decide +kernel

/-! ### Fade: §1.1 and V-F1 of the vectors -/

/-- 2.0 and 1.0 seconds, as f64 patterns. -/
def seconds2 : BitVec 64 := 0x4000000000000000
@[inherit_doc seconds2] def seconds1 : BitVec 64 := 0x3FF0000000000000

/-- A state at counter `c` of the song `FADE_CONFIGURE 2, 1`. -/
def song (c : U32) : State :=
  let s := after [.fadeConfigure seconds2 seconds1] State.reset
  s.setFade { s.fade with counter := c }

theorem test_fadeConfigure :
    (song 0).fade = { counter := 0, beginAt := 88200, endAt := 132300, enabled := true, done := false } := by
  decide +kernel

/-- 0.0002 and 0.0001 s (V-F1's rounding), 100000 s (saturation), and the refusals of R303. -/
theorem test_fadeConfigure_corners :
    (after [.fadeConfigure 0x3F2A36E2EB1C432D 0x3F1A36E2EB1C432D] State.reset).fade.endAt = 13 ∧
      (after [.fadeConfigure 0x40F86A0000000000 0x40F86A0000000000] State.reset).fade.beginAt = 0xFFFFFFFF ∧
      (after [.fadeConfigure 0xBFF0000000000000 0] State.reset).result = .refused .badFadeOperand ∧
      (after [.fadeConfigure 0 0x7FF0000000000000] State.reset).result = .refused .badFadeOperand := by
  decide +kernel

theorem test_fadeAdvance_ramp :
    [0, 88199, 88200, 110250, 132298, 132299, 132300].map
        (fun c => (after [.fadeAdvance 1000 (BitVec.ofInt 16 (-1000))] (song c)).result) =
      [.stereo 1000 (-1000), .stereo 1000 (-1000), .stereo 1000 (-1000), .stereo 500 (-500), .stereo 3 (-4),
        .stereo 3 (-4), .stereo 0 0] := by
  decide +kernel

theorem test_fade_done :
    (after [.fadeAdvance 0 0] (song 132299)).fade.done = false ∧ (after [.fadeAdvance 0 0] (song 132300)).fade.done = true := by
  decide +kernel

/-- R286's and R287's examples. -/
theorem test_fadeCount_fadeTotal :
    (after [.fadeAdvance 1 1, .fadeAdvance 1 1, .fadeAdvance 1 1, .fadeCount] State.reset).result = .count 3 ∧
      (after [.fadeTotal] (song 7)).result = .count 132300 ∧ (after [.fadeTotal] State.reset).result = .count 0xFFFFFFFF := by
  decide +kernel

/-! ### Steps and pseudo-operations -/

/-- The state after one step that gives a next state. -/
def stepped (s : State) : State :=
  match step s with
  | .next t => t
  | .fault _ => s
  | .refused _ => s

theorem test_step_runs_fetchWord :
    (stepped (State.reset.withFetchWord 24 0x70000)).draws = 2 ∧
      (stepped ((written [(0x0084, 1)]).withFetchWord 24 0x00084)).result = .word 1 ∧
      (stepped { State.reset with input := [.ramWrite 5 7] }).ram = [(5, 7)] := by
  decide +kernel

/-- R93: SETSA splits the address, KEYEXEC runs the scan. -/
theorem test_pseudo :
    (after (State.reset.pseudoSetsa 1 0x12345) State.reset).sa 1 = 0x12345 ∧
      (after (State.reset.pseudoKeyexec) (written [(0x0080, 0x4000)])).slots[1].active = true := by
  decide +kernel

/-! ### Hypotheses that are met: for every obligation with hypotheses a state and operands that meet them all, clause by clause -/

theorem test_witness_DecodeEncode :
    (Instr.r16Slot 0x1FFE).wf = true ∧ (Instr.w16SlotTl 63 0x1234 0xFF00).wf = true ∧ (Instr.tick quiet).wf = true ∧
      (Instr.reserved 15 0xFFFF).wf = true := by
  decide

theorem test_witness_DecodedEncodesBack :
    decode { key := 0x80000, data := [1, 0] } = .ok (.midiNotify true) ∧
      decode { key := 0x111FE, data := [7, 0x00FF] } = .ok (.w16SlotStore 0x11FE 7 0xFF00) := by
  decide

/-- Both ends of every clause of the table. -/
theorem test_witness_AddressTable :
    [0x1FFE, 0x2000, 0x2044, 0x2046, 0x27FE, 0x2800, 0x2806, 0x2808, 0x280A, 0x280C, 0x2812, 0x2814, 0x287E, 0x2880, 0x288E,
        0x2890, 0x28B6, 0x28B8, 0x28BC, 0x28BE, 0x2CFE, 0x2D00, 0x2D02, 0x2D04, 0x2D06, 0x2FFE, 0x3000, 0x7FFE, 0x7FFF,
        0x8000].map decodeRead =
      [.r16Slot 0x1FFE, .r16Efspan 0x2000, .r16Efspan 0x2044, .r16Unmapped 0x2046, .r16Unmapped 0x27FE, .r16Common 0x2800,
        .r16Common 0x2806, .r16Refused 0x2808, .r16Refused 0x280A, .r16Common 0x280C, .r16Common 0x2812, .r16Monitor 0x2814,
        .r16Common 0x287E, .r16Refused 0x2880, .r16Refused 0x288E, .r16Common 0x2890, .r16Common 0x28B6, .r16Monitor 0x28B8,
        .r16Common 0x28BC, .r16Unmapped 0x28BE, .r16Unmapped 0x2CFE, .r16Irqreg 0x2D00, .r16Unmapped 0x2D02,
        .r16Irqreg 0x2D04, .r16Unmapped 0x2D06, .r16Unmapped 0x2FFE, .r16Refused 0x3000, .r16Refused 0x7FFE,
        .r16RefuseOdd 0x7FFF, .r16RefuseWindow 0x8000] ∧
    [0x0F80, 0x0F84, 0x0F82, 0x0FAC, 0x289C, 0x28A2, 0x28A6].map (decodeWrite · 1 0xFFFF) =
      [.w16SlotCtrl 31 1 0xFFFF, .w16SlotSa 31 1 0xFFFF, .w16SlotStore 0x0F82 1 0xFFFF, .w16SlotStore 0x0FAC 1 0xFFFF,
        .w16Common 0x289C 1 0xFFFF, .w16Common 0x28A2 1 0xFFFF, .w16Common 0x28A6 1 0xFFFF] := by
  decide

theorem test_witness_StepRunsDecoded :
    ({ State.reset with input := [.op { key := 0x70000, data := [] }] } : State).input = [.op { key := 0x70000, data := [] }] ∧
      decode { key := 0x70000, data := [] } = .ok .reset := by
  decide +kernel

theorem test_witness_StepOtherEvents :
    State.reset.input = [] ∧
    (({ State.reset with input := [.ramWrite 0x7FFFFF 1] } : State).input = [.ramWrite 0x7FFFFF 1] ∧
      Memory.wf ({ State.reset with input := [.ramWrite 0x7FFFFF 1] } : State).ram = true ∧
      0x7FFFFF < State.reset.params.ramSize.bytes) ∧
    (({ State.reset with input := [.op { key := 0x70001, data := [] }] } : State).input =
        [.op { key := 0x70001, data := [] }] ∧
      decode { key := 0x70001, data := [] } = .error .addressBits) := by
  decide +kernel

/-- Each reason of R303, and an operation that is not refused. -/
theorem test_witness_RefusalTable :
    ((Instr.w16RefuseOdd 0x7FFF 0 0).wf = true ∧ refusalOf (.w16RefuseOdd 0x7FFF 0 0) = some .oddOffset) ∧
    ((Instr.r16RefuseWindow 0x8000).wf = true ∧ refusalOf (.r16RefuseWindow 0x8000) = some .offsetOutOfWindow) ∧
    ((Instr.w16Scire 0 0x0100).wf = true ∧ refusalOf (.w16Scire 0 0x0100) = some .badByteEnable) ∧
    ((Instr.w16Refused 0x7FFE 0 0x00FF).wf = true ∧
      refusalOf (.w16Refused 0x7FFE 0 0x00FF) = some (.outOfScopeRegister 0x7FFE)) ∧
    ((Instr.reserved 9 0).wf = true ∧ refusalOf (.reserved 9 0) = some .reservedOp) ∧
    ((Instr.fadeConfigure 0xBFF0000000000000 0).wf = true ∧
      refusalOf (.fadeConfigure 0xBFF0000000000000 0) = some .badFadeOperand) ∧
    ((Instr.fadeConfigure seconds2 0).wf = true ∧ refusalOf (.fadeConfigure seconds2 0) = none) ∧
    ((Instr.w16Scire 0 0x00FF).wf = true ∧ refusalOf (.w16Scire 0 0x00FF) = none) := by
  decide +kernel

theorem test_witness_RefusedIsSticky :
    (∃ t, exec .reset (State.reset.refuse .reservedOp) = .next t) ∧
      (∃ t, step (State.reset.refuse .reservedOp) = .next t) ∧ (State.reset.refuse .reservedOp).refused = true :=
  ⟨⟨_, rfl⟩, ⟨_, rfl⟩, rfl⟩

theorem test_witness_UnsettledWords : [(0xFFFF : Word), 0x00FF, 0xFF00].all maskAdmitted = true := by decide

/-- The masks and the register file, for every statement about a host write. -/
theorem test_witness_StorageWrites :
    storageWrite (.w16SlotTl 63 0x1234 0xFF00) = some (0x1FA8, 0x1234, 0xFF00) ∧
      storageWrite (.w16Common 0x289C 0x0040 0x00FF) = some (0x289C, 0x0040, 0x00FF) ∧ maskAdmitted 0xFF00 = true ∧
      maskAdmitted 0x00FF = true ∧ RegFile.wf (voice 0).regs = true := by
  decide +kernel

theorem test_witness_EgrelWrite : maskAdmitted 0x00FF = true ∧ RegFile.wf (voice 0).regs = true := by decide +kernel

theorem test_witness_PitchWrite : maskAdmitted 0xFF00 = true ∧ RegFile.wf (voice 0).regs = true := by decide +kernel

theorem test_witness_LfoWrite : maskAdmitted 0xFFFF = true ∧ RegFile.wf (voice 0).regs = true := by decide +kernel

theorem test_witness_TimerWrite : maskAdmitted 0xFF00 = true ∧ RegFile.wf (written [(0x2890, 0x07FE)]).regs = true := by
  decide +kernel

theorem test_witness_ScireWrite : maskAdmitted 0x00FF = true ∧ RegFile.wf (written [(0x28A0, 0x00C0)]).regs = true := by
  decide +kernel

theorem test_witness_IrqrWrite : maskAdmitted 0xFFFF = true ∧ RegFile.wf (written [(0x2D04, 1)]).regs = true := by
  decide +kernel

theorem test_witness_ControlWriteWithoutExecute :
    maskAdmitted 0x00FF = true ∧ RegFile.wf (voice 0).regs = true ∧
      ((voice 0).keyWord 1 0x8000 0x00FF 1).getLsbD 15 = false := by
  decide +kernel

/-- Slot 1 runs in ATTACK with KYONB 1; slot 0 has KYONB 1 and is in RELEASE; slot 2 has KYONB 0. -/
def scanState : State := after [asmW16 0x0000 0x4180, asmW16 0x0008 2, asmW16 0x000C 1] (voice 0)

theorem test_witness_KeyScanSlots :
    maskAdmitted 0xFFFF = true ∧ RegFile.wf scanState.regs = true ∧
      (scanState.keyWord 2 0x8000 0xFFFF 2).getLsbD 15 = true ∧
      ((scanState.keyWord 2 0x8000 0xFFFF 0).getLsbD 14 = true ∧ scanState.slots[0].eg.state = .release) ∧
      (scanState.keyWord 2 0x8000 0xFFFF 2).getLsbD 14 = false ∧
      ((scanState.keyWord 2 0x8000 0xFFFF 1).getLsbD 14 = true ∧ scanState.slots[1].eg.state ≠ .release) := by
  decide +kernel

/-- Slot 0 is started as ADPCM with LSA = 2 above LEA = 1. -/
theorem test_witness_KeyScanRegisters :
    ∃ t, exec (.w16SlotCtrl 2 0x8000 0xFFFF) scanState = .next t ∧ maskAdmitted 0xFFFF = true ∧
      RegFile.wf scanState.regs = true ∧ (scanState.keyWord 2 0x8000 0xFFFF 2).getLsbD 15 = true ∧
      scanState.starts 2 0x8000 0xFFFF 0 ∧ 2 ≤ (scanState.keyWord 2 0x8000 0xFFFF 0).toNat / 128 % 4 ∧
      (scanState.reg 0x0C).toNat < (scanState.reg 0x08).toNat := by
  refine ⟨_, rfl, ?_⟩; unfold State.starts; decide +kernel

theorem test_witness_KeyOnEnvelope :
    ∃ t, exec (.w16SlotCtrl 5 0xC000 0xFFFF) (voice 0) = .next t ∧ maskAdmitted 0xFFFF = true ∧
      RegFile.wf (voice 0).regs = true ∧ ((voice 0).keyWord 5 0xC000 0xFFFF 5).getLsbD 15 = true ∧
      (voice 0).starts 5 0xC000 0xFFFF 5 := by
  refine ⟨_, rfl, ?_⟩; unfold State.starts; decide +kernel

/-- Slot 5's stream of 4 nibbles ends with the last byte of a 2 MiB wave RAM. -/
def atTheEnd : State := small (written [(0x0284, 0xFFFE), (0x0288, 4)])

/-- Slot 5 is started with PCMS 2, with its stream below RAM_SIZE, which one nibble more would pass; and with PCMS 1. -/
theorem test_witness_AdpcmKeyOn :
    (∃ t, exec (.w16SlotCtrl 5 0xC11F 0xFFFF) atTheEnd = .next t ∧ RegFile.wf atTheEnd.regs = true ∧
      (atTheEnd.keyWord 5 0xC11F 0xFFFF 5).getLsbD 15 = true ∧ atTheEnd.starts 5 0xC11F 0xFFFF 5 ∧
      2 ≤ (atTheEnd.keyWord 5 0xC11F 0xFFFF 5).toNat / 128 % 4 ∧
      atTheEnd.streamInRam 0x1FFFFE 0 4 ∧ ¬atTheEnd.streamInRam 0x1FFFFE 0 5) ∧
    (∃ t, exec (.w16SlotCtrl 5 0xC080 0xFFFF) State.reset = .next t ∧
      (State.reset.keyWord 5 0xC080 0xFFFF 5).getLsbD 15 = true ∧ State.reset.starts 5 0xC080 0xFFFF 5 ∧
      (State.reset.keyWord 5 0xC080 0xFFFF 5).toNat / 128 % 4 < 2) := by
  refine ⟨⟨_, rfl, ?_⟩, ⟨_, rfl, ?_⟩⟩ <;> unfold State.starts
  · unfold State.streamInRam State.inRam
    decide +kernel
  · decide +kernel

/-- Slot 5 of a 2 MiB instance starts as ADPCM, with its stream below RAM_SIZE. -/
theorem test_witness_KeyScanOrder :
    (let s := atTheEnd.setReg 0x0280 0x411F;
      (∀ j : Fin 64, s.keyOnInRam j) ∧ RegFile.wf s.regs = true ∧
        (s.kyonb 5 = true ∧ s.slots[5].eg.state = .release ∧ 2 ≤ s.pcms 5)) ∧
      (List.finRange 64).reverse.Perm (List.finRange 64) := by
  refine ⟨?_, List.reverse_perm _⟩
  unfold State.keyOnInRam State.streamInRam State.inRam
  decide +kernel

theorem test_witness_KeyonRestart :
    RegFile.wf (voice 0).regs = true ∧ (voice 0).slots[0].eg.state = .release ∧ (voice 0).slots[1].eg.state ≠ .release := by
  decide +kernel

/-- Each clause of the priority chain: a MIDI byte, timer A, B, C pending and enabled, and none. -/
theorem test_witness_IrqEvaluation :
    (∃ t, exec (.midiNotify true) State.reset = .next t ∧ t.midiPending = true) ∧
    (∃ t, exec (.tick quiet) (written [(0x289C, 0x01C0), (0x28A0, 0x01C0)]) = .next t ∧ t.midiPending = false ∧
      (t.reg 0x28A0 &&& t.reg 0x289C).getLsbD 6 = true) ∧
    (∃ t, exec (.tick quiet) (written [(0x289C, 0x0180), (0x28A0, 0x01C0)]) = .next t ∧
      (t.reg 0x28A0 &&& t.reg 0x289C).getLsbD 6 = false ∧ (t.reg 0x28A0 &&& t.reg 0x289C).getLsbD 7 = true) ∧
    (∃ t, exec (.tick quiet) (written [(0x289C, 0x0100), (0x28A0, 0x01C0)]) = .next t ∧
      (t.reg 0x28A0 &&& t.reg 0x289C).getLsbD 7 = false ∧ (t.reg 0x28A0 &&& t.reg 0x289C).getLsbD 8 = true) ∧
    (∃ t, exec (.tick quiet) (written [(0x289C, 0x003F), (0x28A0, 0x01FF)]) = .next t ∧ t.midiPending = false ∧
      t.reg 0x28A0 &&& t.reg 0x289C = 0x003F) := by
  refine ⟨⟨_, rfl, ?_⟩, ⟨_, rfl, ?_⟩, ⟨_, rfl, ?_⟩, ⟨_, rfl, ?_⟩, ⟨_, rfl, ?_⟩⟩ <;> decide +kernel

/-- The line falls by SCIRE, and rises by MIDI_NOTIFY 1. -/
theorem test_witness_LineChanges :
    (∃ t, exec (.w16Scire 0x0100 0xFFFF) (after [.midiNotify true] State.reset) = .next t ∧
      RegFile.wf (after [.midiNotify true] State.reset).regs = true ∧ (after [.midiNotify true] State.reset).irq = true ∧
      t.irq = false) ∧
    (∃ t, exec (.midiNotify true) State.reset = .next t ∧ State.reset.irq = false ∧ t.irq = true) := by
  refine ⟨⟨_, rfl, ?_⟩, ⟨_, rfl, ?_⟩⟩ <;> decide +kernel

/-- Timer A's bit is set by a TICK, timer C's bit cleared by SCIRE. -/
theorem test_witness_PendingBits :
    (∃ t, exec (.tick quiet) (written [(0x2890, 0x00FF)]) = .next t ∧ (Instr.tick quiet).wf = true ∧
      RegFile.wf (written [(0x2890, 0x00FF)]).regs = true ∧ ((written [(0x2890, 0x00FF)]).reg 0x28A0).getLsbD 6 = false ∧
      (t.reg 0x28A0).getLsbD 6 = true) ∧
    (∃ t, exec (.w16Scire 0x0100 0xFFFF) (written [(0x28A0, 0x0100)]) = .next t ∧
      RegFile.wf (written [(0x28A0, 0x0100)]).regs = true ∧ ((written [(0x28A0, 0x0100)]).reg 0x28A0).getLsbD 8 = true ∧
      (t.reg 0x28A0).getLsbD 8 = false) := by
  refine ⟨⟨_, rfl, ?_⟩, ⟨_, rfl, ?_⟩⟩ <;> decide +kernel

/-- Counter A at 0xFF00, B at 0xFEFE with prescale 7 (below 0xFF00 after the tick) and at 0xFEFE with prescale 6 (exactly
0xFF00 from 0xFEFC), C stopped at 0xFFFF, and a counter of 0xFF01. -/
theorem test_witness_TimersTick :
    (∃ t, exec (.tick quiet) (((written [(0x2894, 0x0700)]).setTim 0 0xFF00).setTim 1 0xFEFD) = .next t ∧
      RegFile.wf (((written [(0x2894, 0x0700)]).setTim 0 0xFF00).setTim 1 0xFEFD).regs = true) ∧
    (let s := ((written [(0x2894, 0x0700)]).setTim 0 0xFF00).setTim 1 0xFEFD;
      s.timCnt[0].toNat ≤ 0xFF00 ∧ 0xFF00 ≤ s.timCnt[0].toNat + 2 ^ 8 ∧ s.timCnt[1].toNat ≤ 0xFF00 ∧
        s.timCnt[1].toNat + 2 ^ (8 - (s.reg 0x2894).toNat / 256 % 8) = 0xFEFF ∧
        (s.setTim 1 0xFEFE).timCnt[1].toNat + 2 ^ (8 - (s.reg 0x2894).toNat / 256 % 8) = 0xFF00 ∧
        0xFF00 < s.timCnt[2].toNat ∧ 0xFF00 < (s.setTim 2 0xFF01).timCnt[2].toNat) := by
  refine ⟨⟨_, rfl, ?_⟩, ?_⟩ <;> decide +kernel

/-- Value 0xFE with prescale 1: a period of 2, met by one TICK (n below it) and by two. -/
theorem test_witness_TimerPeriod :
    RegFile.wf State.reset.regs = true ∧
    (∃ s t, exec (.w16Timer 0 0x01FE 0xFFFF) State.reset = .next s ∧ runOps ([quiet].map Instr.tick) s = .next t) ∧
    (∃ s t, exec (.w16Timer 0 0x01FE 0xFFFF) State.reset = .next s ∧ runOps ([quiet, quiet].map Instr.tick) s = .next t) ∧
    (∃ s t, exec (.w16Timer 2 0x07FF 0xFFFF) State.reset = .next s ∧ runOps ([].map Instr.tick) s = .next t) :=
  ⟨by decide +kernel, ⟨_, _, rfl, rfl⟩, ⟨_, _, rfl, rfl⟩, ⟨_, _, rfl, rfl⟩⟩

/-- The reset state and a state with a slot playing meet the invariant of every slot. -/
theorem test_witness_TickCompletes :
    State.reset.slotInv ∧ (voice 0).slotInv ∧ (voice 0).params.tables = Tables.reference := by
  refine ⟨?_, ?_, by decide +kernel⟩ <;> unfold State.slotInv State.volumeInv State.adpcmInv State.activeInv State.lfoInv <;> decide +kernel

/-- Slot 0 is inactive, slot 1 runs. -/
theorem test_witness_TickFrame :
    (∃ t, exec (.tick quiet) (voice 0) = .next t) ∧ RegFile.wf (voice 0).regs = true ∧ (voice 0).runs 0 = false ∧
      (voice 0).runs 1 = true :=
  ⟨⟨_, rfl⟩, by decide +kernel, by decide +kernel, by decide +kernel⟩

/-- Slot 1 playing with both LFOs on their saw waves. -/
def wobbling : State := after [asmW16 0x009C 0x7CEF] (voice 0)

/-- Slot 1 playing with both LFOs on the noise wave, stalled, and a NOISE table whose entry 0 is `b` and whose others are 1. -/
def noisy (b : Byte) : State :=
  { after [asmW16 0x009C 0x03FF] (voice 0) with noise := Vector.ofFn fun i => if i.val = 0 then b else 1 }

/-- Slot 1 of `wobbling`, with a second slot playing, another timer value, mark and draw counter, and another DSP output:
the two states agree on slot 1. Slot 0 does not run. -/
def crowded : State :=
  { after [asmW16 0x0118 0x3BFF, asmW16 0x0100 0xC200, asmW16 0x2890 0x0040] wobbling with
    noise := wobbling.noise, refused := true, draws := 9 }

theorem test_witness_EachSlotAlone :
    (∃ t, exec (.tick quiet) wobbling = .next t) ∧ (∃ t, exec (.tick (List.replicate 16 7)) crowded = .next t) ∧
    (RegFile.wf wobbling.regs = true ∧ wobbling.slotDrawFree 1 ∧ wobbling.plfos 1 ≠ 0 ∧ wobbling.runs 1 = true ∧
      wobbling.runs 0 = false ∧ RegFile.wf crowded.regs = true ∧ crowded ≠ wobbling) ∧
    wobbling.agreeOn crowded 1 := by
  refine ⟨⟨_, rfl⟩, ⟨_, rfl⟩, ?_, ?_⟩
  · unfold State.slotDrawFree State.fetchInRam State.sampleInRam State.streamInRam State.inRam
    decide +kernel
  · exact ⟨by decide +kernel, by decide +kernel, by decide +kernel,
      fun a => congrArg (cellsRead · a) (by decide +kernel : crowded.ram = wobbling.ram), by simp only [crowded]⟩

theorem test_witness_TickMix :
    RegFile.wf crowded.regs = true ∧ crowded.drawFree ∧ (small crowded).drawFree ∧
      (crowded.slots[1].active = true ∧ crowded.slots[2].active = true) := by
  refine ⟨by decide +kernel, ?_, ?_, by decide +kernel⟩ <;>
    unfold State.drawFree State.slotDrawFree State.fetchInRam State.sampleInRam State.streamInRam State.inRam <;>
    decide +kernel

/-- Slot 1 of `voice 0` with this EG state, volume, D1R step and threshold, and steps of 100 (attack) and 7 (the others). -/
def enveloped (st : EgState) (v : Int) (d1r : Nat) (dl : BitVec 5) : State :=
  (voice 0).setSlot 1
    { (voice 0).slots[1] with
      eg := { state := st, volume := v, ar := 100, d1r := d1r, d2r := 7, rr := 7, dl := dl, hold := false } }

/-- Each clause: ATTACK one below full level and at it, with D1R 0 and not, under both SKIP_D1 tests and past or before the
threshold; linked and not, before LSA and past it; DECAY1; DECAY2; a RELEASE that ends and one that does not. -/
theorem test_witness_TickEnvelope :
    (∃ t, exec (.tick quiet) (enveloped .attack 5 7 31) = .next t) ∧
    (let s := enveloped .attack (1023 * 1024 - 101) 7 31;
      RegFile.wf s.regs = true ∧ s.runs 1 = true ∧ s.lpslnk 1 = false ∧ s.slots[1].eg.volume + 100 < 1023 * 1024) ∧
    (let s := enveloped .attack (1023 * 1024 - 100) 7 31;
      s.runs 1 = true ∧ 1023 * 1024 ≤ s.slots[1].eg.volume + 100 ∧ s.params.skipD1 = .doc ∧
        (1023 * 1024 - 7 : Int) < (31 + 1) * 32 * 1024 ∧ ¬(1023 * 1024 - 7 : Int) < (30 + 1) * 32 * 1024) ∧
    (let s := { enveloped .attack (1023 * 1024 - 100) (1024 * 1024) 30 with
          params := { (voice 0).params with skipD1 := .reference } };
      s.runs 1 = true ∧ s.params.skipD1 = .reference ∧ 1024 * 1024 ≤ s.slots[1].eg.d1r ∧ s.slots[1].eg.d2r ≠ 0) ∧
    (let s := after [asmW16 0x0094 0x4000] (enveloped .attack 0 7 30);
      s.runs 1 = true ∧ s.lpslnk 1 = true ∧ s.plfos 1 = 0 ∧ (s.slots[1].advanced 4096).toNat / 4096 < s.lsa 1) ∧
    (let s := after [asmW16 0x0094 0x4000, asmW16 0x0088 1] (enveloped .attack 0 7 30);
      s.runs 1 = true ∧ s.lpslnk 1 = true ∧ s.plfos 1 = 0 ∧ (s.slots[1].advanced 4096).toNat / 4096 = s.lsa 1) ∧
    (let s := after [asmW16 0x0094 0x4000, asmW16 0x0088 1, asmW16 0x009C 0x7CE0] (enveloped .attack 0 7 30);
      s.runs 1 = true ∧ s.lpslnk 1 = true ∧ s.plfos 1 = 7 ∧ s.slots[1].eg.state = .attack) ∧
    (let s := enveloped .decay1 (31 * 32 * 1024) 7 30;
      s.runs 1 = true ∧ s.slots[1].eg.state = .decay1) ∧
    (let s := enveloped .decay2 0 7 30;
      s.runs 1 = true ∧ s.slots[1].eg.state = .decay2 ∧ s.d2r 1 = 0) ∧
    (let s := enveloped .release 7 7 30;
      s.runs 1 = true ∧ s.slots[1].eg.state = .release ∧ s.slots[1].eg.volume ≤ 7 ∧
        ¬(enveloped .release 8 7 30).slots[1].eg.volume ≤ 7) := by
  refine ⟨⟨_, rfl⟩, ?_⟩; decide +kernel

theorem test_witness_EnvelopeMonotone :
    (∃ t, exec (.tick quiet) (enveloped .attack 0 7 30) = .next t ∧ (enveloped .attack 0 7 30).volumeInv 1 ∧
      (enveloped .attack 0 7 30).slots[1].eg.state = .attack ∧ t.slots[1].eg.state = .attack) ∧
    (∃ t, exec (.tick quiet) (enveloped .release (1023 * 1024) 7 30) = .next t ∧
      (enveloped .release (1023 * 1024) 7 30).volumeInv 1 ∧
      (enveloped .release (1023 * 1024) 7 30).slots[1].eg.state ≠ .attack) := by
  refine ⟨⟨_, rfl, ?_⟩, ⟨_, rfl, ?_⟩⟩ <;> unfold State.volumeInv <;> decide +kernel

/-- One TICK of a RELEASE at 8 (before its end) and at 7 (at its end), and of an ATTACK one below full level and at it. -/
theorem test_witness_EnvelopeLengths :
    (∃ t, runOps ([quiet].map Instr.tick) (enveloped .release 8 7 30) = .next t) ∧
    (let s := enveloped .release 8 7 30;
      RegFile.wf s.regs = true ∧ s.runs 1 = true ∧ s.lpctl 1 = true ∧
        (0 ≤ s.slots[1].eg.volume ∧ s.slots[1].eg.volume ≤ 0x3FF * 2 ^ s.params.egFrac.bits) ∧
        s.slots[1].eg.state = .release ∧ 0 < s.slots[1].eg.volume ∧ (1 : Int) * s.slots[1].eg.rr < s.slots[1].eg.volume ∧
        (enveloped .release 7 7 30).slots[1].eg.volume ≤ 1 * (enveloped .release 7 7 30).slots[1].eg.rr) ∧
    (let s := enveloped .attack (1023 * 1024 - 101) 7 30;
      s.runs 1 = true ∧ s.lpctl 1 = true ∧ s.slots[1].eg.state = .attack ∧ s.lpslnk 1 = false ∧
        (s.slots[1].eg.volume + 1 * s.slots[1].eg.ar < 1023 * 2 ^ s.params.egFrac.bits) ∧
        (s.slots[1].eg.volume + 2 * s.slots[1].eg.ar ≥ 1023 * 2 ^ s.params.egFrac.bits)) := by
  refine ⟨⟨_, rfl⟩, ?_⟩; decide +kernel

/-- Slot 1 with its current sample at index `n`, its next one after it, and control word `w`. -/
def placed (n : Nat) (w : Word) : State :=
  let s := after [asmW16 0x0080 (w &&& 0x7FFF)] (voice 0)
  s.setSlot 1
    { s.slots[1] with curAddr := BitVec.ofNat 32 (n * 4096), nxtAddr := BitVec.ofNat 32 ((n + 1) * 4096) }

/-- A looping slot one index before its wrap and at it, a slot without loop at its end, and slots whose pitch LFO is on. -/
theorem test_witness_TickAddress :
    (∃ t, exec (.tick quiet) (placed 14 0x4201) = .next t) ∧
    (let s := placed 13 0x4201;
      RegFile.wf s.regs = true ∧ s.runs 1 = true ∧ s.plfos 1 = 0 ∧ s.lpctl 1 = true ∧
        s.slots[1].nextIndex 4096 < s.lea 1) ∧
    (let s := placed 14 0x4201;
      s.runs 1 = true ∧ s.plfos 1 = 0 ∧ s.lpctl 1 = true ∧ s.slots[1].nextIndex 4096 = s.lea 1) ∧
    (let s := placed 14 0x4001;
      s.runs 1 = true ∧ s.plfos 1 = 0 ∧ s.lpctl 1 = false ∧ s.lsa 1 ≤ s.slots[1].nextIndex 4096 ∧
        s.lea 1 ≤ s.slots[1].nextIndex 4096) ∧
    ((∃ t, exec (.tick quiet) wobbling = .next t) ∧ RegFile.wf wobbling.regs = true ∧ wobbling.runs 1 = true ∧
      wobbling.plfos 1 = 7) ∧
    ((∃ t, exec (.tick quiet) (noisy 0) = .next t) ∧ RegFile.wf (noisy 0).regs = true ∧ (noisy 0).runs 1 = true) := by
  refine ⟨⟨_, rfl⟩, ?_, ?_, ?_, ⟨⟨_, rfl⟩, ?_⟩, ⟨⟨_, rfl⟩, ?_⟩⟩ <;> decide +kernel

/-- An ADPCM slot with its decoder at `p`, at sample index `n`. -/
def decoding (pcms : Word) (n : Nat) (q : Nat) : State :=
  let s := voice pcms
  s.setSlot 1
    { s.slots[1] with
      curAddr := BitVec.ofNat 32 (n * 4096)
      nxtAddr := BitVec.ofNat 32 ((n + 1) * 4096)
      ad := { s.slots[1].ad with quant := q } }

/-- A PCM slot; no wrap with a decoder that runs and with one never initialised; a wrap with PCMS 2 and with PCMS 3; all in a
2 MiB instance. -/
theorem test_witness_AdpcmTick :
    (∃ t, exec (.tick quiet) (small (decoding 2 0 0x7F)) = .next t) ∧
    (RegFile.wf (voice 1).regs = true ∧ (voice 1).runs 1 = true ∧ (voice 1).pcms 1 < 2) ∧
    (let s := small (decoding 2 0 0x7F);
      RegFile.wf s.regs = true ∧ s.runs 1 = true ∧ 2 ≤ s.pcms 1 ∧
        ¬(s.lpctl 1 = true ∧ s.lea 1 ≤ s.slots[1].nextIndex 4096) ∧ s.slots[1].ad.quant ≠ 0 ∧ s.sampleInRam 1 (s.slots[1].nxtAddr.toNat / 4096)) ∧
    (let s := small (decoding 3 0 0);
      s.runs 1 = true ∧ 2 ≤ s.pcms 1 ∧ ¬(s.lpctl 1 = true ∧ s.lea 1 ≤ s.slots[1].nextIndex 4096) ∧ s.slots[1].ad.quant = 0) ∧
    (let s := small (decoding 2 14 0x7F);
      s.runs 1 = true ∧ s.pcms 1 = 2 ∧ s.lpctl 1 = true ∧ s.lea 1 ≤ s.slots[1].nextIndex 4096) ∧
    (let s := small (decoding 3 14 0x7F);
      s.runs 1 = true ∧ s.pcms 1 = 3 ∧ s.lpctl 1 = true ∧ s.lea 1 ≤ s.slots[1].nextIndex 4096 ∧ s.slots[1].ad.quant ≠ 0 ∧
        s.sampleInRam 1 (s.slots[1].nxtAddr.toNat / 4096)) := by
  refine ⟨⟨_, rfl⟩, ?_⟩
  unfold State.sampleInRam State.streamInRam State.inRam
  decide +kernel

/-- Slot 1 of a 2 MiB instance on the sample of 8 bits in the last byte of wave RAM; the next one lies past it. -/
def onTheEdge : State := small (after [asmW16 0x0084 0xFFFF, asmW16 0x0080 0x429F] (voice 1))

/-- Frozen; in ATTACK without link, with it past LSA and before it, and in RELEASE; 16-bit and 8-bit samples and both ADPCM
formats; both LFOs off and on; an ADPCM decoder before the current index, past it, and never initialised, and a next index
of 0; bytes below RAM_SIZE and past it. -/
theorem test_witness_SlotOutput :
    (after [asmW16 0x0080 0x4601] (voice 0)).ssctl 1 = true ∧
    ([voice 0, voice 1, decoding 2 3 0x7F, decoding 3 0 0, wobbling, noisy 0, onTheEdge].all fun s => !s.ssctl 1) = true ∧
    (∀ s ∈ [voice 0, small (voice 0), small (voice 1), small (decoding 2 3 0x7F), small (decoding 3 0 0)],
      s.sampleInRam 1 3 ∧ s.sampleInRam 1 4) ∧
    (onTheEdge.sampleInRam 1 0 ∧ ¬onTheEdge.sampleInRam 1 1 ∧ onTheEdge.pcms 1 = 1) ∧
    [(voice 0).pcms 1, (voice 1).pcms 1, (decoding 2 3 0x7F).pcms 1, (decoding 3 0 0).pcms 1] = [0, 1, 2, 3] ∧
    ((decoding 2 3 0x7F).slots[1].ad.step.toNat < 3 ∧ (decoding 3 0 0).slots[1].ad.quant = 0) ∧
    (let s := (decoding 2 3 0x7F).setSlot 1 { (decoding 2 3 0x7F).slots[1] with curAddr := 0xFFFFF000, nxtAddr := 0 };
      s.slots[1].nxtAddr.toNat / 4096 < s.slots[1].curAddr.toNat / 4096 ∧ 2 ≤ s.pcms 1) ∧
    ((voice 0).slots[1].eg.state = .attack ∧ (voice 0).lpslnk 1 = false) ∧
    (let s := after [asmW16 0x0094 0x4000] (voice 0);
      s.slots[1].eg.state = .attack ∧ s.lpslnk 1 = true ∧ (s.slots[1].advanced 4096).toNat / 4096 < s.lsa 1 ∧ s.plfos 1 = 0) ∧
    (let s := after [asmW16 0x0094 0x4000, asmW16 0x0088 1] (voice 0);
      s.slots[1].eg.state = .attack ∧ s.lpslnk 1 = true ∧ (s.slots[1].advanced 4096).toNat / 4096 = s.lsa 1 ∧ s.plfos 1 = 0) ∧
    (voiceIn .release 5).slots[1].eg.state ≠ .attack := by
  unfold State.sampleInRam State.streamInRam State.inRam
  decide +kernel

/-- The reference tables and the bounds of the step, and a nibble of every clause. -/
theorem test_witness_AdpcmStepProperties :
    (State.reset.params.tables.quantMul = .reference ∧ State.reset.params.tables.quantScale = .reference) ∧
    ([({ sample := -32768, quant := 0x7F } : Predictor), { sample := 32767, quant := 0x6000 }].all fun p =>
        decide (0x7F ≤ p.quant) && decide (p.quant ≤ 0x6000)) = true ∧
      [0, 3, 4, 5, 6, 7, 8, 15].map (fun d => d % 8) = [0, 3, 4, 5, 6, 7, 0, 7] ∧ 15 < 16 := by
  decide +kernel

theorem test_witness_InterpolationBetween : -32768 ≤ min (-32768 : Int) 32767 ∧ max (-32768 : Int) 32767 ≤ 32767 := by
  decide

theorem test_witness_LoopBounds :
    (∃ t, runOps ([quiet, quiet].map Instr.tick) (placed 14 0x4201) = .next t) ∧
    (let s := placed 14 0x4201;
      RegFile.wf s.regs = true ∧ s.runs 1 = true ∧ s.lpctl 1 = true ∧ s.plfos 1 = 0 ∧ s.lsa 1 < s.lea 1 ∧
        s.slots[1].step.toNat ≤ (s.lea 1 - s.lsa 1) * 4096 ∧ s.slots[1].nxtAddr = s.slots[1].curAddr + 0x1000 ∧
        s.slots[1].nxtAddr.toNat / 4096 < s.lea 1 ∧ s.lsa 1 ≤ s.slots[1].nxtAddr.toNat / 4096 ∧
        s.lea 1 ≤ s.slots[1].nextIndex 4096) := by
  refine ⟨⟨_, rfl⟩, ?_⟩; decide +kernel

/-- Both LFOs on and off; the noise overflow (entry 0) and the entry next to it; the waveforms at their last entry; a
waveform never computed; a positive and a negative sample. -/
theorem test_witness_LfoGains :
    (wobbling.plfos 1 ≠ 0 ∧ wobbling.alfos 1 ≠ 0 ∧ wobbling.params.tables = Tables.reference ∧
      wobbling.slots[1].alfo.wave ≠ .none ∧ wobbling.slots[1].plfo.wave ≠ .none ∧ wobbling.slots[1].plfo.wave ≠ .noise) ∧
    ((voice 0).plfos 1 = 0 ∧ (voice 0).alfos 1 = 0) ∧
    ((noisy 0).pitchWave .noise 0 = some 128 ∧ (noisy 1).pitchWave .noise 0 = some 127 ∧
      (noisy 1).plfos 1 ≠ 0 ∧ (noisy 1).slots[1].plfo.wave = .noise ∧ (∀ n : Fin 256, (noisy 1).noise[n] ≠ 0) ∧
      (noisy 0).slots[1].plfo.nextEntry = 0) ∧
    (wobbling.pitchWave .saw 255 = some (-1) ∧ wobbling.ampWave .tri 255 = some 254) ∧
    ((voice 0).slots[1].plfo.wave = .none ∧ wobbling.pitchWave .none 0 = none) ∧
    ((0 : Int) ≤ 32767 ∧ (-32768 : Int) ≤ 0) := by
  decide +kernel

theorem test_witness_LfoPhases :
    (∃ t, exec (.tick quiet) wobbling = .next t) ∧ (∃ t, exec .fadeCount wobbling = .next t) ∧
      (∃ t, exec .reset wobbling = .next t) ∧ (wobbling.runs 1 = true ∧ wobbling.plfos 1 ≠ 0 ∧ wobbling.alfos 1 ≠ 0) :=
  ⟨⟨_, rfl⟩, ⟨_, rfl⟩, ⟨_, rfl⟩, by decide +kernel⟩

/-- DIPAN 0 and DIPAN 0x0F. -/
theorem test_witness_UnityPaths :
    (voice 0).params.tables = Tables.reference ∧ (voice 0).slotInv ∧
    ((voice 0).slots[1].active = true ∧ (∀ k : Fin 64, k ≠ 1 → (voice 0).slots[k].active = false) ∧ (voice 0).tl 1 = 0 ∧
      (voice 0).disdl 1 = 15 ∧ (∀ n, n < 16 → (voice 0).efsdl n = 0) ∧ (voice 0).dipan 1 = 0) ∧
    (let s := after [asmW16 0x00A4 0x0F0F] (voice 0);
      s.slots[1].active = true ∧ s.disdl 1 = 15 ∧ s.dipan 1 = 0x0F) := by
  refine ⟨by decide +kernel, ?_, by decide +kernel⟩
  unfold State.slotInv State.volumeInv State.adpcmInv State.activeInv State.lfoInv; decide +kernel

/-- Effect return 0 at EFSDL 15 and no slot active. -/
theorem test_witness_EffectReturns :
    (∀ j : Fin 64, (written [(0x2000, 0x0F00)]).slots[j].active = false) ∧ (written [(0x2000, 0x0F00)]).efsdl 0 ≠ 0 := by
  decide +kernel

theorem test_witness_SilentAfterReset : ∃ t, exec .reset (voice 0) = .next t := ⟨_, rfl⟩

/-- A negative, an infinite and a NaN operand; a length of 2 s with a fade of 1 s; a length of 0. -/
theorem test_witness_FadeConfigure :
    [0xBFF0000000000000, 0x7FF0000000000000, 0x7FF8000000000000].all badSeconds = true ∧
    (f64Value seconds2 = some 2 ∧ f64Value seconds1 = some 1 ∧ (0 : ℚ) ≤ 2 ∧ (0 : ℚ) ≤ 1 ∧ (2 : ℚ) ≠ 0) ∧
      f64Value 0 = some 0 := by
  decide +kernel

/-- The branches of `song`, whose ramp runs from 88200 to 132300: before it, its ends, and past it; and no fade. -/
theorem test_witness_FadeAdvance :
    State.reset.fade.enabled = false ∧
    ([0, 88199].all fun c => let f := (song c).fade; f.enabled && !f.done && decide (f.counter.toNat < f.beginAt.toNat)) ∧
    ([88200, 132299].all fun c =>
      let f := (song c).fade
      f.enabled && !f.done && decide (f.beginAt.toNat ≤ f.counter.toNat) && decide (f.counter.toNat < f.endAt.toNat)) ∧
    ([132300, 0xFFFFFFFF].all fun c => let f := (song c).fade; f.enabled && decide (f.endAt.toNat ≤ f.counter.toNat)) ∧
    (after [.fadeAdvance 0 0] (song 132300)).fade.done = true := by
  decide +kernel

theorem test_witness_FadeBounds :
    (∃ t, exec (.fadeAdvance 0x7FFF 0x8000) (song 88200) = .next t) ∧ (0 : Int) ≤ (0x7FFF : Word).toInt ∧
      (0x8000 : Word).toInt < 0 ∧
    (let f := (song 88200).fade;
      let g := (song 132299).fade;
      f.beginAt = g.beginAt ∧ f.endAt = g.endAt ∧ f.beginAt.toNat ≤ f.counter.toNat ∧ f.counter.toNat ≤ g.counter.toNat ∧
        g.counter.toNat < g.endAt.toNat) := by
  refine ⟨⟨_, rfl⟩, ?_⟩; decide +kernel

/-- A song of one sample, `begin` and `end` at 1: the next sample is the one at `end`. -/
def shortSong : State :=
  State.reset.setFade { counter := 0, beginAt := 1, endAt := 1, enabled := true, done := false }

theorem test_witness_FadeSong :
    (∃ t u, runOps ([((3 : Word), (4 : Word))].map fun x => Instr.fadeAdvance x.1 x.2) shortSong = .next t ∧
      exec (.fadeAdvance 5 6) t = .next u ∧ t.fade.done = false ∧ u.fade.done = true ∧ shortSong.fade.endAt.toNat = 1) ∧
    (shortSong.fade.enabled = true ∧ shortSong.fade.done = false ∧ shortSong.fade.counter = 0 ∧
      shortSong.fade.beginAt.toNat ≤ shortSong.fade.endAt.toNat ∧ 1 < 0xFFFFFFFF ∧ 0 < shortSong.fade.beginAt.toNat) := by
  refine ⟨⟨_, _, rfl, rfl, ?_⟩, ?_⟩ <;> decide +kernel

theorem test_witness_FadeCounts : State.reset.fadeInv ∧ State.reset.fade.enabled = false := by
  unfold State.fadeInv; decide +kernel

theorem test_witness_FadeNoninterference :
    (∃ t, exec (.tick quiet) (song 88200) = .next t) ∧ (∃ t, exec .fadeCount (song 88200) = .next t) :=
  ⟨⟨_, rfl⟩, ⟨_, rfl⟩⟩

theorem test_witness_ExecFrame : ∃ t, exec (.r16Slot 0) State.reset = .next t := ⟨_, rfl⟩

theorem test_witness_InitialState : ∃ t, exec .reset State.reset = .next t := ⟨_, rfl⟩

/-- A state with a slot playing, about to take a TICK, meets the invariants. -/
def aboutToTick : State := (voice 0).withFetchWord 24 0x20000

theorem test_witness_StepKeepsStorage : (∃ t, step aboutToTick = .next t) ∧ aboutToTick.storageInv := by
  refine ⟨⟨_, rfl⟩, ?_⟩; unfold State.storageInv; decide +kernel

theorem test_witness_StepKeepsSlots :
    (∃ t, step aboutToTick = .next t) ∧ aboutToTick.storageInv ∧ aboutToTick.kyonexInv ∧ aboutToTick.slotInv := by
  refine ⟨⟨_, rfl⟩, ?_⟩
  unfold State.storageInv State.kyonexInv State.slotInv State.volumeInv State.adpcmInv State.activeInv State.lfoInv
  decide +kernel

theorem test_witness_StepKeepsTimersFadeLine :
    (∃ t, step aboutToTick = .next t) ∧ aboutToTick.storageInv ∧ aboutToTick.timerInv ∧ aboutToTick.fadeInv ∧
      aboutToTick.irqInv := by
  refine ⟨⟨_, rfl⟩, ?_⟩
  unfold State.storageInv State.timerInv State.fadeInv State.irqInv; decide +kernel

end Sys2Proof.Tests
end

section
/-! Steps: what one step does with an operation event. -/

namespace Sys2Proof.Proofs

open Sys2Proof Sys2Proof.Machine

/-- The branch of `step` for an operation that decodes (R7, R67). -/
theorem step_of_decode_ok {s : State} {t : Transaction} {rest : List Event} {i : Instr}
    (hinput : s.input = .op t :: rest) (hdecode : decode t = .ok i) : step s = exec i (s.withInput rest) := by
  simp only [step, hinput, hdecode]

/-- Settles O5: the operation branch of `step`, with `State.withInput` written out. -/
theorem stepRunsDecoded : Obligations.StepRunsDecoded := by
  intro s t rest i hinput hdecode
  exact step_of_decode_ok hinput hdecode

end Sys2Proof.Proofs
end

section
/-! Steps: what one step can do to the state. -/

namespace Sys2Proof.Proofs

open Sys2Proof Sys2Proof.Machine

/-! ### Plain storage words -/

/-- The slot words whose write has an effect besides its storage: the key scan and the latches (R125, R133 to R135). -/
def latchedOffsets : List Nat := [0x00, 0x14, 0x18, 0x1C]

/-- A word whose write is plain storage: the block stores it (R22), and no key scan, latch or timer follows it. -/
structure PlainWord (a : Nat) : Prop where
  stored : storedReg a = true
  notLatched : ∀ i, ∀ o ∈ latchedOffsets, a ≠ slotReg i o
  notTimer : ∀ k, a ≠ timerReg k

/-- Every plain storage write (R120) that the operation makes is of a plain word. -/
def StoresPlain (i : Instr) : Prop := ∀ a v m, storageWrite i = some (a, v, m) → PlainWord a

theorem mem_latchedOffsets {o : Nat} : o ∈ latchedOffsets ↔ o = 0x00 ∨ o = 0x14 ∨ o = 0x18 ∨ o = 0x1C := by
  simp [latchedOffsets]

theorem latchedOffsets_lt {o : Nat} (h : o ∈ latchedOffsets) : o < 0x80 := by
  rw [mem_latchedOffsets] at h
  omega

theorem storedReg_slotReg (i : Fin 64) {o : Nat} (heven : o % 2 = 0) (ho : o < 0x80) :
    storedReg (slotReg i o) = true := by
  have hlt := slotReg_lt i ho
  have hmod : slotReg i o % 2 = 0 := by unfold slotReg; omega
  have hle : slotReg i o ≤ 0x2044 := by omega
  simp [storedReg, hmod, hle]

theorem storedReg_timerReg (k : Fin 3) : storedReg (timerReg k) = true := by
  revert k; decide

theorem timerReg_ge (k : Fin 3) : 0x2890 ≤ timerReg k := by unfold timerReg; omega

theorem timerReg_ne_slotReg (k : Fin 3) (i : Fin 64) {o : Nat} (ho : o < 0x80) : timerReg k ≠ slotReg i o := by
  have hslot := slotReg_lt i ho
  have htimer := timerReg_ge k
  omega

/-- A slot word is plain unless it is one of the latched ones. -/
theorem plainWord_slot {a : Nat} (hlt : a < 0x2000) (heven : a % 2 = 0) (ho : a % 0x80 ∉ latchedOffsets) :
    PlainWord a where
  stored := by
    have hle : a ≤ 0x2044 := by omega
    simp [storedReg, heven, hle]
  notLatched i p hp e := by
    have hp' := latchedOffsets_lt hp
    have : a % 0x80 = p := by rw [e]; unfold slotReg; omega
    exact ho (this ▸ hp)
  notTimer k := by
    have := timerReg_ge k
    omega

theorem plainWord_slotReg (i : Fin 64) {o : Nat} (heven : o % 2 = 0) (ho : o < 0x80) (hplain : o ∉ latchedOffsets) :
    PlainWord (slotReg i o) := by
  refine plainWord_slot (slotReg_lt i ho) (by unfold slotReg; omega) ?_
  have : slotReg i o % 0x80 = o := by unfold slotReg; omega
  rwa [this]

/-- A stored word from the effect returns on is plain unless it is a timer's. -/
theorem plainWord_common {a : Nat} (hstored : storedReg a = true) (hge : 0x2000 ≤ a)
    (htimer : a ≠ 0x2890 ∧ a ≠ 0x2894 ∧ a ≠ 0x2898) : PlainWord a where
  stored := hstored
  notLatched i o ho := by
    have := slotReg_lt i (latchedOffsets_lt ho)
    omega
  notTimer k := by
    unfold timerReg
    omega

/-! ### The decoder -/

theorem storesPlain_of_none {i : Instr} (h : storageWrite i = none) : StoresPlain i := by
  intro a v m hw
  rw [h] at hw
  cases hw

theorem storesPlain_of_some {i : Instr} {a : Nat} {v m : Word} (h : storageWrite i = some (a, v, m)) (ha : PlainWord a) :
    StoresPlain i := by
  intro a' v' m' hw
  rw [h] at hw
  cases hw
  exact ha

theorem storesPlain_ite {c : Prop} [Decidable c] {i j : Instr} (hi : c → StoresPlain i) (hj : ¬c → StoresPlain j) :
    StoresPlain (if c then i else j) := by
  split
  · exact hi ‹_›
  · exact hj ‹_›

theorem decodeRead_storesPlain (a : Word) : StoresPlain (decodeRead a) := by
  refine storesPlain_of_none ?_
  unfold decodeRead
  dsimp only
  repeat' split
  all_goals rfl

theorem decodeSlotWrite_storesPlain (a v m : Word) (hlt : a.toNat < 0x2000) (heven : a.toNat % 2 = 0) :
    StoresPlain (decodeSlotWrite a v m) := by
  have hslot : ∀ o, o % 2 = 0 → o < 0x80 → o ∉ latchedOffsets → PlainWord (slotReg (slotOfOffset a) o) :=
    fun o => plainWord_slotReg (slotOfOffset a)
  unfold decodeSlotWrite
  dsimp only
  iterate 4 (split; · exact storesPlain_of_none rfl)
  split; · exact storesPlain_of_some rfl (hslot 0x04 (by decide) (by decide) (by decide))
  split; · exact storesPlain_of_some rfl (hslot 0x08 (by decide) (by decide) (by decide))
  split; · exact storesPlain_of_some rfl (hslot 0x0C (by decide) (by decide) (by decide))
  split; · exact storesPlain_of_some rfl (hslot 0x10 (by decide) (by decide) (by decide))
  split; · exact storesPlain_of_some rfl (hslot 0x20 (by decide) (by decide) (by decide))
  split; · exact storesPlain_of_some rfl (hslot 0x24 (by decide) (by decide) (by decide))
  split; · exact storesPlain_of_some rfl (hslot 0x28 (by decide) (by decide) (by decide))
  refine storesPlain_of_some rfl (plainWord_slot hlt heven ?_)
  rw [mem_latchedOffsets]
  omega

theorem storedReg_iff (a : Nat) :
    storedReg a = true ↔ a % 2 = 0 ∧ (a ≤ 0x2044 ∨ a = 0x2D00 ∨ a = 0x2D04 ∨
      (0x2800 ≤ a ∧ a ≤ 0x28BC ∧ ¬(0x2808 ≤ a ∧ a ≤ 0x280A) ∧ ¬(0x2880 ≤ a ∧ a ≤ 0x288E))) := by
  simp only [storedReg, Bool.and_eq_true, Bool.or_eq_true, Bool.not_eq_true', Bool.and_eq_false_iff, decide_eq_true_eq,
    decide_eq_false_iff_not, beq_iff_eq]
  omega

theorem decodeWrite_storesPlain (a v m : Word) : StoresPlain (decodeWrite a v m) := by
  have hnone : ∀ {c : Prop} {i : Instr}, storageWrite i = none → c → StoresPlain i := fun h _ => storesPlain_of_none h
  have hsome : ∀ {i : Instr}, storageWrite i = some (a.toNat, v, m) → storedReg a.toNat = true → 0x2000 ≤ a.toNat →
      a.toNat ≠ 0x2890 ∧ a.toNat ≠ 0x2894 ∧ a.toNat ≠ 0x2898 → StoresPlain i :=
    fun hi hstored hge htimer => storesPlain_of_some hi (plainWord_common hstored hge htimer)
  have hirql : PlainWord irql := plainWord_common (by decide) (by decide) (by decide)
  rw [storedReg_iff] at hsome
  unfold decodeWrite
  dsimp only
  -- rows 1 to 7: refused offsets, slot words
  refine storesPlain_ite (hnone rfl) fun heven => storesPlain_ite (hnone rfl) fun _ => ?_
  refine storesPlain_ite (fun hlt => decodeSlotWrite_storesPlain a v m hlt (by omega)) fun hslot => ?_
  -- rows 8 to 11: effect returns, unmapped and refused words, monitor words
  refine storesPlain_ite (fun _ => hsome rfl (by omega) (by omega) (by omega)) fun hefspan => ?_
  refine storesPlain_ite (hnone rfl) fun hunmapped => storesPlain_ite (hnone rfl) fun hrefused => ?_
  refine storesPlain_ite (fun _ => hsome rfl (by omega) (by omega) (by omega)) fun _ => ?_
  -- rows 12 to 14: timers, SCIRE, the other common words
  refine storesPlain_ite (hnone rfl) fun htima => storesPlain_ite (hnone rfl) fun htimb => ?_
  refine storesPlain_ite (hnone rfl) fun htimc => storesPlain_ite (hnone rfl) fun _ => ?_
  refine storesPlain_ite (fun _ => hsome rfl (by omega) (by omega) (by omega)) fun _ => ?_
  -- rows 15 to 18: IRQL, IRQR, refused and unmapped words
  refine storesPlain_ite (fun _ => storesPlain_of_some rfl hirql) fun _ => ?_
  exact storesPlain_ite (hnone rfl) fun _ => storesPlain_ite (hnone rfl) (hnone rfl)

theorem eq_of_map_ok {ε α β : Type} {x : Except ε α} {f : α → β} {b : β} (h : x.map f = .ok b) : ∃ a, f a = b := by
  cases x with
  | error e => cases h
  | ok a => exact ⟨a, Except.ok.inj h⟩

/-- A decoded operation stores plain words only, besides the words that have an operation of their own (R82). -/
theorem decode_storesPlain {t : Transaction} {i : Instr} (h : decode t = .ok i) : StoresPlain i := by
  unfold decode decodeOp at h
  split at h
  · obtain ⟨_, rfl⟩ := eq_of_map_ok h
    exact decodeRead_storesPlain _
  · obtain ⟨_, rfl⟩ := eq_of_map_ok h
    exact decodeWrite_storesPlain _ _ _
  all_goals refine storesPlain_of_none ?_
  case h_9 =>
    split at h; · cases h
    cases hdata : takeOperands 1 t.data with
    | error e => rw [hdata] at h; cases h
    | ok d =>
      rw [hdata] at h
      dsimp only [Except.bind] at h
      split at h
      · cases h; rfl
      · split at h <;> cases h
        rfl
  case h_10 =>
    obtain ⟨_, rfl⟩ := eq_of_map_ok h
    rfl
  all_goals
    split at h; · cases h
    obtain ⟨_, rfl⟩ := eq_of_map_ok h
    rfl

/-! ### The effect of a step -/

/-- What one event may do to the state, apart from the fields of `quietFrame`. -/
inductive Effect (s : State) : State → Prop
  | none : Effect s s
  | pokeRam (a : Nat) (b : Byte) : Effect s (s.pokeRam a b)
  | store {a : Nat} (v m : Word) (ha : PlainWord a) : Effect s (s.store a v m)
  | slotCtrl (i : Fin 64) (v m : Word) : Effect s ((s.store (slotReg i 0x00) v m).keyExecute i)
  | slotEgrel (i : Fin 64) (v m : Word) : Effect s ((s.store (slotReg i 0x14) v m).latchRelease i)
  | slotPitch (i : Fin 64) (v m : Word) : Effect s ((s.store (slotReg i 0x18) v m).latchPitch i)
  | slotLfo (i : Fin 64) (v m : Word) : Effect s ((s.store (slotReg i 0x1C) v m).latchLfo i)
  | timer (k : Fin 3) (v m : Word) : Effect s ((s.store (timerReg k) v m).reloadTimer k)
  | scire (v m : Word) : Effect s ((s.store scire v m).acknowledge)
  | irqr (v m : Word) : Effect s ((s.store irqr v m).requestClear)
  | tick (efreg : List Word) : Effect s (s.mix efreg).state.timersTick.checkIrq
  | fadeConfigure (lengthS fadeS : BitVec 64) : Effect s (s.setFade (s.fade.configure lengthS fadeS))
  | fadeAdvance : Effect s (s.setFade s.fade.next)
  | reset : Effect s s.resetOp
  | midi : Effect s (s.setMidi true).checkIrq

/-- `t` differs from `s` in what no invariant speaks of: the MIDI input, the NOISE table, the mark of R41 and the model's
own fields. -/
def quietFrame (s t : State) : Prop :=
  t = { s with
    midiPending := t.midiPending
    noise := t.noise
    refused := t.refused
    input := t.input
    result := t.result
    draws := t.draws }

/-- An event's effect with its result (R80). -/
def Completes (s t : State) : Prop := ∃ u, Effect s u ∧ quietFrame u t

theorem completes_quiet {s t : State} (h : quietFrame s t) : Completes s t := ⟨s, .none, h⟩

theorem completes_ret {s u : State} (h : Effect s u) (r : Result) : Completes s (u.ret r) := ⟨u, h, rfl⟩

/-- A host write has its effect, or is refused for its byte enable (R66). -/
theorem completes_hostWrite {s : State} (m : Word) {effect : State → State} (h : Effect s (effect s)) :
    Completes s (s.hostWrite m effect) := by
  cases hm : byteEnableOk m with
  | true => rw [State.hostWrite_ok s effect hm]; exact completes_ret h .none
  | false => rw [State.hostWrite_bad s effect hm]; exact completes_quiet rfl

theorem completes_storeWrite {s : State} {i : Instr} {a : Nat} {v m : Word} (hplain : StoresPlain i)
    (h : storageWrite i = some (a, v, m)) : Completes s (s.storeWrite a v m) :=
  completes_hostWrite m (.store v m (hplain a v m h))

theorem completes_refusedWrite (s : State) (a m : Word) :
    Completes s (if byteEnableOk m then s.refuse (.outOfScopeRegister a) else s.refuse .badByteEnable) := by
  split <;> exact completes_quiet rfl

theorem completes_fadeConfigure (s : State) (lengthS fadeS : BitVec 64) :
    Completes s (if badFadeOperand lengthS || badFadeOperand fadeS then s.refuse .badFadeOperand
      else (s.setFade (s.fade.configure lengthS fadeS)).ret .none) := by
  split
  · exact completes_quiet rfl
  · exact completes_ret (.fadeConfigure lengthS fadeS) .none

theorem completes_midiNotify (s : State) (p : Bool) :
    Completes s ((if p then (s.setMidi true).checkIrq else s.setMidi false).ret .none) := by
  cases p with
  | true => exact completes_ret .midi .none
  | false => exact completes_quiet rfl

/-- Every operation that stores plain words completes with one of the effects. -/
theorem exec_completes (s : State) : ∀ {i : Instr}, StoresPlain i → ∃ t, exec i s = .next t ∧ Completes s t
  | .r16RefuseOdd _, _ => ⟨_, rfl, completes_quiet rfl⟩
  | .r16RefuseWindow _, _ => ⟨_, rfl, completes_quiet rfl⟩
  | .r16Slot _, _ => ⟨_, rfl, completes_quiet rfl⟩
  | .r16Efspan _, _ => ⟨_, rfl, completes_quiet rfl⟩
  | .r16Unmapped _, _ => ⟨_, rfl, completes_quiet rfl⟩
  | .r16Refused _, _ => ⟨_, rfl, completes_quiet rfl⟩
  | .r16Monitor _, _ => ⟨_, rfl, completes_quiet rfl⟩
  | .r16Common _, _ => ⟨_, rfl, completes_quiet rfl⟩
  | .r16Irqreg _, _ => ⟨_, rfl, completes_quiet rfl⟩
  | .w16RefuseOdd _ _ _, _ => ⟨_, rfl, completes_quiet rfl⟩
  | .w16RefuseWindow _ _ _, _ => ⟨_, rfl, completes_quiet rfl⟩
  | .w16SlotCtrl i v m, _ => ⟨_, rfl, completes_hostWrite m (.slotCtrl i v m)⟩
  | .w16SlotEgrel i v m, _ => ⟨_, rfl, completes_hostWrite m (.slotEgrel i v m)⟩
  | .w16SlotPitch i v m, _ => ⟨_, rfl, completes_hostWrite m (.slotPitch i v m)⟩
  | .w16SlotLfo i v m, _ => ⟨_, rfl, completes_hostWrite m (.slotLfo i v m)⟩
  | .w16SlotSa _ _ _, h => ⟨_, rfl, completes_storeWrite h rfl⟩
  | .w16SlotLsa _ _ _, h => ⟨_, rfl, completes_storeWrite h rfl⟩
  | .w16SlotLea _ _ _, h => ⟨_, rfl, completes_storeWrite h rfl⟩
  | .w16SlotEgrate _ _ _, h => ⟨_, rfl, completes_storeWrite h rfl⟩
  | .w16SlotDspsend _ _ _, h => ⟨_, rfl, completes_storeWrite h rfl⟩
  | .w16SlotDirect _ _ _, h => ⟨_, rfl, completes_storeWrite h rfl⟩
  | .w16SlotTl _ _ _, h => ⟨_, rfl, completes_storeWrite h rfl⟩
  | .w16SlotStore _ _ _, h => ⟨_, rfl, completes_storeWrite h rfl⟩
  | .w16Efspan _ _ _, h => ⟨_, rfl, completes_storeWrite h rfl⟩
  | .w16Unmapped _ _ m, _ => ⟨_, rfl, completes_hostWrite m .none⟩
  | .w16Refused a _ m, _ => ⟨_, rfl, completes_refusedWrite s a m⟩
  | .w16Monitor _ _ _, h => ⟨_, rfl, completes_storeWrite h rfl⟩
  | .w16Timer k v m, _ => ⟨_, rfl, completes_hostWrite m (.timer k v m)⟩
  | .w16Scire v m, _ => ⟨_, rfl, completes_hostWrite m (.scire v m)⟩
  | .w16Common _ _ _, h => ⟨_, rfl, completes_storeWrite h rfl⟩
  | .w16Irql _ _, h => ⟨_, rfl, completes_storeWrite h rfl⟩
  | .w16Irqr v m, _ => ⟨_, rfl, completes_hostWrite m (.irqr v m)⟩
  | .tick efreg, _ => ⟨_, rfl, completes_ret (.tick efreg) _⟩
  | .fadeConfigure l f, _ => ⟨_, rfl, completes_fadeConfigure s l f⟩
  | .fadeAdvance _ _, _ => ⟨_, rfl, completes_ret .fadeAdvance _⟩
  | .fadeCount, _ => ⟨_, rfl, completes_quiet rfl⟩
  | .fadeTotal, _ => ⟨_, rfl, completes_quiet rfl⟩
  | .reset, _ => ⟨_, rfl, _, .reset, rfl⟩
  | .midiNotify p, _ => ⟨_, rfl, completes_midiNotify s p⟩
  | .reserved _ _, _ => ⟨_, rfl, completes_quiet rfl⟩

/-- Every step is an effect on the state with its event taken away, or on the state itself (R7, R318). -/
theorem step_completes {s t : State} (h : step s = .next t) : ∃ s', quietFrame s s' ∧ Completes s' t := by
  cases hinput : s.input with
  | nil =>
    simp only [step, hinput] at h
    cases h
    exact ⟨s, rfl, completes_quiet rfl⟩
  | cons e rest =>
    refine ⟨s.withInput rest, rfl, ?_⟩
    cases e with
    | ramWrite a b =>
      simp only [step, hinput] at h
      cases h
      exact ⟨_, .pokeRam a b, rfl⟩
    | op tr =>
      cases hdecode : decode tr with
      | error e => simp only [step, hinput, hdecode] at h; cases h
      | ok i =>
        rw [step_of_decode_ok hinput hdecode] at h
        obtain ⟨u, hu, hc⟩ := exec_completes (s.withInput rest) (decode_storesPlain hdecode)
        rw [hu] at h
        cases h
        exact hc

/-- A property that every effect keeps, and that does not depend on the fields of `quietFrame`, is kept by every step. -/
theorem step_keeps {P : State → Prop} (hquiet : ∀ {s t}, quietFrame s t → P s → P t)
    (heffect : ∀ {s t}, Effect s t → P s → P t) {s t : State} (hs : P s) (h : step s = .next t) : P t := by
  obtain ⟨s', hs', u, heff, hu⟩ := step_completes h
  exact hquiet hu (heffect heff (hquiet hs' hs))

end Sys2Proof.Proofs
end

section
/-! What holds of one slot's runtime state under its register words, and that the pieces of the slot update and of key-on
keep it (R33 to R36, R182, R225). -/

namespace Sys2Proof.Proofs

open Sys2Proof Sys2Proof.Machine

/-! ### Low-frequency oscillators -/

/-- With a depth field that is not 0, the LFO has latched the fields of its word (R225). -/
def LfoLatched (p : Params) (l : Lfo) (f ws d : Nat) : Prop :=
  d ≠ 0 → l.depth.toNat = d ∧ l.wave = waveOfField ws ∧ l.phaseStep = p.lfoStep f

theorem lfoLatched_advance {p : Params} {l : Lfo} {f ws d : Nat} (h : LfoLatched p l f ws d) :
    LfoLatched p l.advance f ws d := h

theorem lfoLatched_latchedLfo (p : Params) (l : Lfo) (f ws : Nat) {d : Nat} (hd : d < 8) :
    LfoLatched p (latchedLfo p l f ws d) f ws d := by
  intro h0
  rw [latchedLfo, if_neg h0]
  exact ⟨Nat.mod_eq_of_lt hd, rfl, rfl⟩

theorem plfos_lt (s : State) (i : Fin 64) : s.plfos i < 8 := Nat.mod_lt _ (by decide)

theorem alfos_lt (s : State) (i : Fin 64) : s.alfos i < 8 := Nat.mod_lt _ (by decide)

/-- `ComputeLFO` latches each LFO by its fields and changes nothing else of the slot (R225). -/
theorem computeLfo_eq (s : State) (i : Fin 64) (x : Slot) :
    s.computeLfo i x =
      { x with
        plfo := latchedLfo s.params x.plfo (s.lfof i) (s.plfows i) (s.plfos i)
        alfo := latchedLfo s.params x.alfo (s.lfof i) (s.alfows i) (s.alfos i) } := by
  simp only [State.computeLfo, latchedLfo, ite_not]

theorem pitchUse_latched (s : State) (i : Fin 64) (x : Slot) (d : Nat) {p : Params} {f ws n : Nat}
    (h : LfoLatched p x.plfo f ws n) : LfoLatched p (s.pitchUse i x d).plfo f ws n := by
  unfold State.pitchUse
  split
  · exact lfoLatched_advance h
  · exact h

theorem ampUse_latched (s : State) (i : Fin 64) {l : Lfo} (x : Int) (d : Nat) {p : Params} {f ws n : Nat}
    (h : LfoLatched p l f ws n) : LfoLatched p (s.ampUse i l x d).alfo f ws n := by
  unfold State.ampUse
  split
  · exact lfoLatched_advance h
  · exact h

/-! ### The ADPCM decoder -/

/-- A value in the s16 range. -/
def IsS16 (v : Int) : Prop := -32768 ≤ v ∧ v ≤ 32767

/-- The quantisation step of an initialised decoder (R191). -/
def IsQuant (q : Nat) : Prop := 0x7F ≤ q ∧ q ≤ 0x6000

/-- What `State.adpcmInv` says of a decoder's fields. -/
structure AdpcmInRange (ad : Adpcm) : Prop where
  sample : IsS16 ad.sample
  lpSample : IsS16 ad.lpSample
  quants : (ad.quant = 0 ∧ ad.lpQuant = 0) ∨ (IsQuant ad.quant ∧ IsQuant ad.lpQuant)

theorem clip16_isS16 (x : Int) : IsS16 (clip16 x) := by
  unfold clip16 clamp IsS16
  omega

theorem adpcmStep_inRange (params : Params) (p : Predictor) (d : Nat) :
    IsS16 (adpcmStep params p d).sample ∧ IsQuant (adpcmStep params p d).quant := by
  refine ⟨clip16_isS16 _, ?_⟩
  unfold adpcmStep IsQuant
  dsimp only
  omega

/-- The key-on walk of R131 ends in the decoder's ranges. -/
theorem keyOnWalk_inRange (s : State) (fuel n base : Nat) {p : Predictor} (draws : Nat) (hs : IsS16 p.sample)
    (hq : IsQuant p.quant) :
    IsS16 (s.keyOnWalk fuel n base p draws).1.sample ∧ IsQuant (s.keyOnWalk fuel n base p draws).1.quant := by
  induction fuel generalizing n base p draws with
  | zero => exact ⟨hs, hq⟩
  | succ fuel ih =>
    obtain ⟨hs', hq'⟩ := adpcmStep_inRange s.params p (s.nibble base n draws).1
    exact ih (n + 1) _ _ hs' hq'

theorem predictorInit_inRange : IsS16 Predictor.init.sample ∧ IsQuant Predictor.init.quant := by
  unfold IsS16 IsQuant
  decide

/-- The decoder at nibble 0 of slot `i`'s stream, with the loop cache of R131. -/
def keyOnDecoder (s : State) (i : Fin 64) : Adpcm :=
  let cache := (s.keyOnWalk (s.lsa i) 0 (s.streamBase i) Predictor.init s.draws).1
  { sample := Predictor.init.sample
    quant := Predictor.init.quant
    step := 0
    base := BitVec.ofNat 32 (s.streamBase i)
    lpSample := cache.sample
    lpQuant := cache.quant }

/-- `AdpcmKeyOn` sets the decoder, and writes the loop-disable sentinel where LSA > LEA (R131). -/
theorem adpcmKeyOn_eq (s : State) (i : Fin 64) :
    ∃ d, s.adpcmKeyOn i =
      if s.lea i < s.lsa i then
        ((s.setSlot i { s.slots[i] with ad := keyOnDecoder s i }).setDraws d).setReg (slotReg i 0x0C) 0xFFFF
      else (s.setSlot i { s.slots[i] with ad := keyOnDecoder s i }).setDraws d := ⟨_, rfl⟩

theorem keyOnDecoder_inRange (s : State) (i : Fin 64) : AdpcmInRange (keyOnDecoder s i) := by
  obtain ⟨hs, hq⟩ := predictorInit_inRange
  obtain ⟨hs', hq'⟩ := keyOnWalk_inRange s (s.lsa i) 0 (s.streamBase i) s.draws hs hq
  exact ⟨hs, hs', .inr ⟨hq, hq'⟩⟩

/-- The walk of R186 from an initialised decoder keeps its ranges; the loop cache stays. -/
theorem adpcmWalk_inRange (s : State) (i1 fuel : Nat) {w : AdpcmWalk} (h : AdpcmInRange w.ad) (hq : IsQuant w.ad.quant) :
    AdpcmInRange (s.adpcmWalk i1 fuel w).ad := by
  induction fuel generalizing w with
  | zero => exact h
  | succ fuel ih =>
    obtain ⟨hs', hq'⟩ := adpcmStep_inRange s.params { sample := w.ad.sample, quant := w.ad.quant }
      (s.nibble w.ad.base.toNat w.ad.step.toNat w.draws).1
    have hlp : IsQuant w.ad.lpQuant := by
      have := h.quants
      unfold IsQuant at *
      omega
    exact ih (w := s.adpcmWalkStep i1 w) ⟨hs', h.lpSample, .inr ⟨hq', hlp⟩⟩ hq'

theorem fetchAdpcm_inRange (s : State) {x : Slot} (d : Nat) (h : AdpcmInRange x.ad) :
    AdpcmInRange (s.fetchAdpcm x d).ad := by
  unfold State.fetchAdpcm
  split
  · exact h
  · rename_i hquant
    exact adpcmWalk_inRange s _ _ (w := { ad := x.ad, cur := x.ad.sample, draws := d }) h
      (h.quants.elim (fun h0 => absurd h0.1 hquant) And.left)

/-- A fetch in any format keeps the decoder's ranges; only an ADPCM fetch moves the decoder (R183). -/
theorem fetch_inRange (s : State) (i : Fin 64) {x : Slot} (d : Nat) (h : AdpcmInRange x.ad) :
    AdpcmInRange (s.fetch i x d).ad := by
  unfold State.fetch
  split
  · exact h
  · exact h
  · exact fetchAdpcm_inRange s d h

/-! ### The envelope -/

/-- The EG volume is in its range (R34). -/
def VolumeInRange (p : Params) (e : Eg) : Prop := 0 ≤ e.volume ∧ e.volume ≤ maxVolume p.egFrac

theorem maxVolume_nonneg (f : EgFrac) : 0 ≤ maxVolume f := by cases f <;> decide

theorem startVolume_inRange (f : EgFrac) : 0 ≤ startVolume f ∧ startVolume f ≤ maxVolume f := by cases f <;> decide

theorem egAttack_volume (p : Params) (lpslnk : Bool) {e : Eg} (h : VolumeInRange p e) :
    VolumeInRange p (egAttack p lpslnk e).eg := by
  obtain ⟨hlo, _⟩ := h
  have hmax := maxVolume_nonneg p.egFrac
  unfold VolumeInRange egAttack
  dsimp only
  split
  · omega
  · rename_i hfull
    rw [decide_eq_true_eq] at hfull
    omega

theorem egDecay1_volume (p : Params) {e : Eg} (h : VolumeInRange p e) : VolumeInRange p (egDecay1 p e).eg := by
  obtain ⟨_, hhi⟩ := h
  have hmax := maxVolume_nonneg p.egFrac
  unfold VolumeInRange egDecay1
  dsimp only
  omega

theorem egDecay2_volume (p : Params) (liveD2r : Nat) {e : Eg} (h : VolumeInRange p e) :
    VolumeInRange p (egDecay2 p liveD2r e).eg := by
  obtain ⟨hlo, hhi⟩ := h
  have hmax := maxVolume_nonneg p.egFrac
  unfold VolumeInRange egDecay2
  dsimp only
  split <;> omega

theorem egRelease_volume (p : Params) {e : Eg} (h : VolumeInRange p e) : VolumeInRange p (egRelease p e).eg := by
  obtain ⟨_, hhi⟩ := h
  have hmax := maxVolume_nonneg p.egFrac
  unfold VolumeInRange egRelease
  dsimp only
  split <;> omega

/-- The envelope's update keeps the volume in its range, whatever the latched steps (R155 to R159). -/
theorem egUpdate_volume (p : Params) (lpslnk : Bool) (liveD2r : Nat) {e : Eg} (h : VolumeInRange p e) :
    VolumeInRange p (egUpdate p lpslnk liveD2r e).eg := by
  unfold egUpdate
  split
  · exact egAttack_volume p lpslnk h
  · exact egDecay1_volume p h
  · exact egDecay2_volume p liveD2r h
  · exact egRelease_volume p h

theorem egUpdate_dl (p : Params) (lpslnk : Bool) (liveD2r : Nat) (e : Eg) :
    (egUpdate p lpslnk liveD2r e).eg.dl = e.dl := by
  unfold egUpdate
  split <;> rfl

/-! ### The slot -/

/-- What `State.slotInv` says of slot `i`, of a runtime state `x` under the registers of `s`. -/
structure SlotGood (s : State) (i : Fin 64) (x : Slot) : Prop where
  volume : VolumeInRange s.params x.eg
  adpcm : AdpcmInRange x.ad
  active : x.active = true →
    x.nxtAddr = x.curAddr + 0x1000 ∧ x.step = s.pitchStep i ∧ x.eg.dl.toNat = 31 - s.dl i
  plfo : LfoLatched s.params x.plfo (s.lfof i) (s.plfows i) (s.plfos i)
  alfo : LfoLatched s.params x.alfo (s.lfof i) (s.alfows i) (s.alfos i)

theorem adpcmInRange_iff (s : State) (i : Fin 64) : AdpcmInRange s.slots[i].ad ↔ s.adpcmInv i := by
  constructor
  · rintro ⟨hs, hlp, hq⟩
    refine ⟨hs, hlp, hq.imp_right ?_⟩
    rintro ⟨⟨h1, h2⟩, h3, h4⟩
    exact ⟨h1, h2, h3, h4⟩
  · rintro ⟨hs, hlp, hq⟩
    refine ⟨hs, hlp, hq.imp_right ?_⟩
    rintro ⟨h1, h2, h3, h4⟩
    exact ⟨⟨h1, h2⟩, h3, h4⟩

theorem slotInv_iff (s : State) : s.slotInv ↔ ∀ i, SlotGood s i s.slots[i] := by
  refine forall_congr' fun i => ?_
  constructor
  · rintro ⟨hvolume, hadpcm, hactive, hplfo, halfo⟩
    exact ⟨hvolume, (adpcmInRange_iff s i).mpr hadpcm, hactive, hplfo, halfo⟩
  · rintro ⟨hvolume, hadpcm, hactive, hplfo, halfo⟩
    exact ⟨hvolume, (adpcmInRange_iff s i).mp hadpcm, hactive, hplfo, halfo⟩

theorem dl_congr {s t : State} {i : Fin 64} (h : t.sr i 0x14 = s.sr i 0x14) : t.dl i = s.dl i := congrArg (bits · 9 5) h

theorem pitchStep_congr {s t : State} {i : Fin 64} (h : t.sr i 0x18 = s.sr i 0x18) : t.pitchStep i = s.pitchStep i := by
  unfold State.pitchStep State.oct State.fns
  rw [h]

theorem plfoLatched_congr {s t : State} {i : Fin 64} {l : Lfo} (hp : t.params = s.params) (h : t.sr i 0x1C = s.sr i 0x1C)
    (hl : LfoLatched s.params l (s.lfof i) (s.plfows i) (s.plfos i)) :
    LfoLatched t.params l (t.lfof i) (t.plfows i) (t.plfos i) := by
  unfold State.lfof State.plfows State.plfos at *
  rwa [hp, h]

theorem alfoLatched_congr {s t : State} {i : Fin 64} {l : Lfo} (hp : t.params = s.params) (h : t.sr i 0x1C = s.sr i 0x1C)
    (hl : LfoLatched s.params l (s.lfof i) (s.alfows i) (s.alfos i)) :
    LfoLatched t.params l (t.lfof i) (t.alfows i) (t.alfos i) := by
  unfold State.lfof State.alfows State.alfos at *
  rwa [hp, h]

/-- What is good of a slot depends on the parameters and on the slot's words 0x14, 0x18 and 0x1C alone. -/
theorem slotGood_congr {s t : State} {i : Fin 64} {x : Slot} (hp : t.params = s.params)
    (hw : ∀ o ∈ [0x14, 0x18, 0x1C], t.sr i o = s.sr i o) (h : SlotGood s i x) : SlotGood t i x where
  volume := by
    rw [hp]
    exact h.volume
  adpcm := h.adpcm
  active := by
    rw [pitchStep_congr (hw 0x18 (by decide)), dl_congr (hw 0x14 (by decide))]
    exact h.active
  plfo := plfoLatched_congr hp (hw 0x1C (by decide)) h.plfo
  alfo := alfoLatched_congr hp (hw 0x1C (by decide)) h.alfo

theorem dlThreshold_toNat (s : State) (i : Fin 64) : (s.dlThreshold i).toNat = 31 - s.dl i := by
  unfold State.dlThreshold
  rw [BitVec.toNat_ofNat]
  omega

/-- An LFO latch makes both LFOs good, whatever they were. -/
theorem computeLfo_good {s : State} {i : Fin 64} {x : Slot} (hvolume : VolumeInRange s.params x.eg)
    (hadpcm : AdpcmInRange x.ad)
    (hactive : x.active = true →
      x.nxtAddr = x.curAddr + 0x1000 ∧ x.step = s.pitchStep i ∧ x.eg.dl.toNat = 31 - s.dl i) :
    SlotGood s i (s.computeLfo i x) := by
  rw [computeLfo_eq]
  exact
    { volume := hvolume
      adpcm := hadpcm
      active := hactive
      plfo := lfoLatched_latchedLfo _ _ _ _ (plfos_lt s i)
      alfo := lfoLatched_latchedLfo _ _ _ _ (alfos_lt s i) }

/-- Key-on starts a good slot (R130). -/
theorem keyOnSlot_good {s : State} {i : Fin 64} {x : Slot} (h : AdpcmInRange x.ad) : SlotGood s i (s.keyOnSlot i x) := by
  unfold State.keyOnSlot
  exact computeLfo_good (startVolume_inRange _) h fun _ => ⟨rfl, rfl, dlThreshold_toNat s i⟩

/-- The address advance keeps a slot good; the next address follows the current one in any case (R194). -/
theorem advance_good {s : State} {i : Fin 64} {x : Slot} (stepEff : Nat) (h : SlotGood s i x) :
    SlotGood s i (s.advance i x stepEff) where
  volume := h.volume
  adpcm := h.adpcm
  active hact := ⟨rfl, (h.active hact).2⟩
  plfo := h.plfo
  alfo := h.alfo

/-- A loop wrap moves both addresses by one loop length (R196) and may restore the cached predictor (R197). -/
theorem wrap_good {s : State} {i : Fin 64} {x : Slot} (h : SlotGood s i x) : SlotGood s i (s.wrap i x) where
  volume := h.volume
  adpcm := by
    unfold State.wrap
    dsimp only
    split
    · exact h.adpcm
    · exact h.adpcm
    · have hquants := h.adpcm.quants.imp (fun h0 => And.intro h0.2 h0.2) fun hq => And.intro hq.2 hq.2
      exact ⟨h.adpcm.lpSample, h.adpcm.lpSample, hquants⟩
    · exact ⟨h.adpcm.sample, h.adpcm.lpSample, h.adpcm.quants⟩
  active hact := by
    obtain ⟨hnxt, hrest⟩ := h.active hact
    refine ⟨?_, hrest⟩
    unfold State.wrap
    dsimp only
    rw [hnxt]
    ring
  plfo := h.plfo
  alfo := h.alfo

theorem loopControl_good {s : State} {i : Fin 64} {x : Slot} (h : SlotGood s i x) :
    SlotGood s i (s.loopControl i x).1 := by
  unfold State.loopControl
  dsimp only
  split
  · dsimp only
    split
    · exact wrap_good h
    · exact h
  · exact h

/-- The pitch LFO's use and the fetch keep a slot good (R189, R183). -/
theorem fetched_good {s : State} {i : Fin 64} {x : Slot} (d d' : Nat) (h : SlotGood s i x) :
    SlotGood s i { x with plfo := (s.pitchUse i x d).plfo, ad := (s.fetch i x d').ad } where
  volume := h.volume
  adpcm := fetch_inRange s i d' h.adpcm
  active := h.active
  plfo := pitchUse_latched s i x d h.plfo
  alfo := h.alfo

/-- The seven steps of R182 keep a slot good. -/
theorem slotRun_good {s : State} {i : Fin 64} {x : Slot} (h : SlotGood s i x) : SlotGood s i (s.slotRun i x).slot := by
  have hmoved := advance_good (s.pitchUse i x s.draws).stepEff
    (fetched_good s.draws (s.pitchUse i x s.draws).draws h)
  have hlooped := loopControl_good hmoved
  exact
    { volume := egUpdate_volume _ _ _ hlooped.volume
      adpcm := hlooped.adpcm
      active := fun hact => by
        obtain ⟨hnxt, hstep, hdl⟩ := hlooped.active hact
        exact ⟨hnxt, hstep, (congrArg BitVec.toNat (egUpdate_dl _ _ _ _)).trans hdl⟩
      plfo := hlooped.plfo
      alfo := ampUse_latched s i _ _ hlooped.alfo }

theorem adpcmIdle_inRange : AdpcmInRange Slot.idle.ad := by
  refine ⟨?_, ?_, .inl ⟨rfl, rfl⟩⟩ <;> exact ⟨by decide, by decide⟩

theorem released_good {s : State} {i : Fin 64} {x : Slot} (h : SlotGood s i x) :
    SlotGood s i { x with eg := { x.eg with state := .release } } :=
  ⟨h.volume, h.adpcm, h.active, h.plfo, h.alfo⟩

theorem setLpend_good {s : State} {i : Fin 64} {x : Slot} (b : Bool) (h : SlotGood s i x) :
    SlotGood s i { x with lpend := b } :=
  ⟨h.volume, h.adpcm, h.active, h.plfo, h.alfo⟩

theorem stopped_good {s : State} {i : Fin 64} {x : Slot} (h : SlotGood s i x) : SlotGood s i { x with active := false } :=
  { h with active := fun hact => absurd hact Bool.false_ne_true }

end Sys2Proof.Proofs
end

section
/-! What a slot's turn keeps, in the key scan (R125) and in a TICK (R250). -/

namespace Sys2Proof.Proofs

open Sys2Proof Sys2Proof.Machine

/-! ### Register writes -/

/-- A write of a word that the block stores keeps the stores' form. -/
theorem setReg_storageInv {s : State} {a : Nat} (v : Word) (ha : storedReg a = true) (h : s.storageInv) :
    (s.setReg a v).storageInv := by
  obtain ⟨hregs, hstored, hram⟩ := h
  refine ⟨State.setReg_regs_wf s a v hregs, fun e he => ?_, hram⟩
  rcases mem_cellsWrite he with h | h
  · rwa [h]
  · exact hstored e h

theorem setReg_kyonex_ne (s : State) {a : Nat} (v : Word) (i : Fin 64) (ha : slotReg i 0x00 ≠ a) :
    (s.setReg a v).kyonex i = s.kyonex i := congrArg (BitVec.getLsbD · 15) (State.setReg_reg_ne s v ha)

/-- What holds of every slot stays where the parameters, the slots and the latching words stay. -/
theorem slotInv_congr {s t : State} (hparams : t.params = s.params) (hslots : t.slots = s.slots)
    (hwords : ∀ i, ∀ o ∈ [0x14, 0x18, 0x1C], t.sr i o = s.sr i o) (h : s.slotInv) : t.slotInv := by
  rw [slotInv_iff] at h ⊢
  intro i
  rw [hslots]
  exact slotGood_congr hparams (hwords i) (h i)

theorem setReg_slotInv {s : State} (i : Fin 64) {o : Nat} (v : Word) (ho : o < 0x80) (hne : o ∉ [0x14, 0x18, 0x1C])
    (h : s.slotInv) : (s.setReg (slotReg i o) v).slotInv := by
  refine slotInv_congr (s := s) rfl rfl (fun j p hp => ?_) h
  have hp' : p < 0x80 := by
    simp only [List.mem_cons, List.not_mem_nil, or_false] at hp
    omega
  exact State.setReg_sr_ne s v ho hp' fun e => hne (e.2 ▸ hp)

/-- A slot replaced by a good one, while every other slot is good. -/
theorem setSlot_slotInv {s : State} {i : Fin 64} {x : Slot} (hothers : ∀ j, j ≠ i → SlotGood s j s.slots[j])
    (hx : SlotGood s i x) : (s.setSlot i x).slotInv := by
  rw [slotInv_iff]
  intro j
  refine slotGood_congr (s := s) rfl (fun _ _ => rfl) ?_
  rw [State.setSlot_slot]
  split
  · rename_i hji
    rwa [hji]
  · exact hothers j ‹_›

/-! ### What a slot's turn keeps -/

/-- The invariants that a slot's turn keeps, and the bits and words that it leaves alone. -/
structure TurnKeeps (s t : State) : Prop where
  storage : s.storageInv → t.storageInv
  kyonex : s.storageInv → ∀ i, t.kyonex i = s.kyonex i
  slots : s.slotInv → t.slotInv
  timerWords : ∀ k, t.reg (timerReg k) = s.reg (timerReg k)

theorem turnKeeps_refl (s : State) : TurnKeeps s s := ⟨id, fun _ _ => rfl, id, fun _ => rfl⟩

theorem turnKeeps_trans {s t u : State} (h : TurnKeeps s t) (g : TurnKeeps t u) : TurnKeeps s u where
  storage := g.storage ∘ h.storage
  kyonex hs i := (g.kyonex (h.storage hs) i).trans (h.kyonex hs i)
  slots := g.slots ∘ h.slots
  timerWords k := (g.timerWords k).trans (h.timerWords k)

theorem turnKeeps_setDraws (s : State) (d : Nat) : TurnKeeps s (s.setDraws d) := ⟨id, fun _ _ => rfl, id, fun _ => rfl⟩

theorem turnKeeps_setSlot {s : State} {i : Fin 64} {x : Slot} (hx : SlotGood s i s.slots[i] → SlotGood s i x) :
    TurnKeeps s (s.setSlot i x) where
  storage := id
  kyonex _ _ := rfl
  slots h := by
    rw [slotInv_iff] at h
    exact setSlot_slotInv (fun j _ => h j) (hx (h i))
  timerWords _ := rfl

/-- Clearing KYONB (R132, R160) leaves KYONEX as it is. -/
theorem turnKeeps_clearKyonb (s : State) (i : Fin 64) :
    TurnKeeps s (s.setReg (slotReg i 0x00) (s.sr i 0x00 &&& ~~~ 0x4000)) where
  storage := setReg_storageInv _ (storedReg_slotReg i (by decide) (by decide))
  kyonex hs j := by
    unfold State.kyonex
    rw [State.setReg_sr s i j _ (by decide) (by decide) hs.1]
    split
    · rename_i hj
      rw [hj.1]
      simp
    · rfl
  slots := setReg_slotInv i _ (by decide) (by decide)
  timerWords k := State.setReg_reg_ne s _ (timerReg_ne_slotReg k i (by decide))

/-- The loop-disable sentinel of R131. -/
theorem turnKeeps_setLea (s : State) (i : Fin 64) (v : Word) : TurnKeeps s (s.setReg (slotReg i 0x0C) v) where
  storage := setReg_storageInv _ (storedReg_slotReg i (by decide) (by decide))
  kyonex _ j := setReg_kyonex_ne s v j fun e => by simpa using ((slotReg_inj (by decide) (by decide)).mp e).2
  slots := setReg_slotInv i _ (by decide) (by decide)
  timerWords k := State.setReg_reg_ne s _ (timerReg_ne_slotReg k i (by decide))

theorem turnKeeps_adpcmKeyOn (s : State) (i : Fin 64) : TurnKeeps s (s.adpcmKeyOn i) := by
  obtain ⟨d, hd⟩ := adpcmKeyOn_eq s i
  have hslot : TurnKeeps s (s.setSlot i { s.slots[i] with ad := keyOnDecoder s i }) :=
    turnKeeps_setSlot fun h => { h with adpcm := keyOnDecoder_inRange s i }
  have hdraws := turnKeeps_trans hslot (turnKeeps_setDraws _ d)
  rw [hd]
  split
  · exact turnKeeps_trans hdraws (turnKeeps_setLea _ i _)
  · exact hdraws

theorem turnKeeps_keyOn (s : State) (i : Fin 64) : TurnKeeps s (s.keyOn i) := by
  have hslot : TurnKeeps s (s.setSlot i (s.keyOnSlot i s.slots[i])) := turnKeeps_setSlot fun h => keyOnSlot_good h.adpcm
  unfold State.keyOn
  dsimp only
  split
  · exact turnKeeps_trans hslot (turnKeeps_adpcmKeyOn _ i)
  · exact hslot

theorem turnKeeps_keyOff (s : State) (i : Fin 64) : TurnKeeps s (s.keyOff i) :=
  turnKeeps_trans (turnKeeps_setSlot released_good) (turnKeeps_clearKyonb _ i)

/-- A slot's turn in the key scan (R125). -/
theorem turnKeeps_scanSlot (s : State) (i : Fin 64) : TurnKeeps s (s.scanSlot i) := by
  unfold State.scanSlot
  split
  · split
    · exact turnKeeps_trans (turnKeeps_setSlot (setLpend_good false)) (turnKeeps_keyOn _ i)
    · exact turnKeeps_refl s
  · exact turnKeeps_keyOff s i

/-- The key scan over the slots (R125). -/
theorem turnKeeps_keyScan (s : State) : TurnKeeps s s.keyScan :=
  List.foldlRecOn _ State.scanSlot (turnKeeps_refl s) fun t ht i _ => turnKeeps_trans ht (turnKeeps_scanSlot t i)

theorem turnKeeps_forcedStop (s : State) (i : Fin 64) : TurnKeeps s (s.forcedStop i) :=
  turnKeeps_trans (turnKeeps_setSlot stopped_good) (turnKeeps_clearKyonb _ i)

theorem turnKeeps_commitRun (s : State) (i : Fin 64) {r : SlotRun}
    (hr : SlotGood s i s.slots[i] → SlotGood s i r.slot) :
    TurnKeeps s (s.commitRun i r) := by
  have hrun := turnKeeps_trans (turnKeeps_setSlot hr) (turnKeeps_setDraws _ r.draws)
  unfold State.commitRun
  dsimp only
  split
  · exact turnKeeps_trans hrun (turnKeeps_forcedStop _ i)
  · exact hrun

theorem turnKeeps_slotUpdate (s : State) (i : Fin 64) : TurnKeeps s (s.slotUpdate i).1 := by
  unfold State.slotUpdate
  split
  · exact turnKeeps_refl s
  · exact turnKeeps_commitRun s i slotRun_good

/-- A slot's turn in a TICK (R250). -/
theorem turnKeeps_slotTurn (m : Mix) (i : Fin 64) : TurnKeeps m.state (m.slotTurn i).state := by
  unfold Mix.slotTurn
  split
  · exact turnKeeps_slotUpdate m.state i
  · exact turnKeeps_refl m.state

/-- The mix of a TICK: the slots' turns, then the effect returns, which change no state (R250, R247). -/
theorem turnKeeps_mix (s : State) (efreg : List Word) : TurnKeeps s (s.mix efreg).state := by
  unfold State.mix
  rw [Mix.foldl_returnTurn_state]
  exact List.foldlRecOn (motive := fun m => TurnKeeps s m.state) _ Mix.slotTurn
    (show TurnKeeps s ({ state := s, accL := 0, accR := 0, sends := [] } : Mix).state from turnKeeps_refl s)
    fun m hm i _ => turnKeeps_trans hm (turnKeeps_slotTurn m i)

end Sys2Proof.Proofs
end

section
/-! Every step keeps the stores' form (R22, R60). -/

namespace Sys2Proof.Proofs

open Sys2Proof Sys2Proof.Machine

theorem store_storageInv {s : State} {a : Nat} (v m : Word) (ha : storedReg a = true) (h : s.storageInv) :
    (s.store a v m).storageInv := setReg_storageInv _ ha h

theorem storageInv_quiet {s t : State} (hq : quietFrame s t) (h : s.storageInv) : t.storageInv := by
  rw [hq]
  exact h

theorem keyExecute_storageInv {s : State} (i : Fin 64) (h : s.storageInv) : (s.keyExecute i).storageInv := by
  unfold State.keyExecute
  split
  · exact setReg_storageInv _ (storedReg_slotReg i (by decide) (by decide)) ((turnKeeps_keyScan s).storage h)
  · exact h

theorem pokeRam_storageInv {s : State} (a : Nat) (b : Byte) (h : s.storageInv) : (s.pokeRam a b).storageInv := by
  obtain ⟨hregs, hstored, hram, hbound⟩ := h
  unfold State.pokeRam
  split
  · rename_i ha
    refine ⟨hregs, hstored, cellsWrite_wf a b hram, fun e he => ?_⟩
    rcases mem_cellsWrite he with h | h
    · rwa [h]
    · exact hbound e h
  · exact ⟨hregs, hstored, hram, hbound⟩

theorem acknowledge_storageInv {s : State} (h : s.storageInv) : s.acknowledge.storageInv := by
  have hpending := setReg_storageInv (s.reg scipd &&& ~~~ s.reg scire) (show storedReg scipd = true by decide) h
  unfold State.acknowledge
  dsimp only
  split <;> exact hpending

theorem requestClear_storageInv {s : State} (h : s.storageInv) : s.requestClear.storageInv := by
  unfold State.requestClear
  split <;> exact h

theorem timerTick_storageInv {s : State} (k : Fin 3) (h : s.storageInv) : (s.timerTick k).storageInv := by
  unfold State.timerTick
  dsimp only
  split
  · refine setReg_storageInv _ (storedReg_timerReg k) ?_
    split
    · exact setReg_storageInv (s := s.setTim k _) _ (by decide) h
    · exact h
  · exact h

theorem timersTick_storageInv {s : State} (h : s.storageInv) : s.timersTick.storageInv :=
  timerTick_storageInv 2 (timerTick_storageInv 1 (timerTick_storageInv 0 h))

theorem checkIrq_storageInv {s : State} (h : s.storageInv) : s.checkIrq.storageInv := by
  rw [State.checkIrq_frame]
  exact h

theorem resetOp_storageInv {s : State} (h : s.storageInv) : s.resetOp.storageInv :=
  ⟨rfl, fun _ he => absurd he List.not_mem_nil, h.2.2⟩

theorem effect_storageInv {s t : State} (he : Effect s t) (h : s.storageInv) : t.storageInv := by
  have hslot (i : Fin 64) {o : Nat} (v m : Word) (ho : o ∈ latchedOffsets) :
      (s.store (slotReg i o) v m).storageInv := by
    refine store_storageInv v m (storedReg_slotReg i ?_ (latchedOffsets_lt ho)) h
    rw [mem_latchedOffsets] at ho
    omega
  cases he with
  | none => exact h
  | pokeRam a b => exact pokeRam_storageInv a b h
  | store v m ha => exact store_storageInv v m ha.stored h
  | slotCtrl i v m => exact keyExecute_storageInv i (hslot i v m (by decide))
  | slotEgrel i v m => exact hslot i v m (by decide)
  | slotPitch i v m => exact hslot i v m (by decide)
  | slotLfo i v m => exact hslot i v m (by decide)
  | timer k v m => exact store_storageInv v m (storedReg_timerReg k) h
  | scire v m => exact acknowledge_storageInv (store_storageInv v m (by decide) h)
  | irqr v m => exact requestClear_storageInv (store_storageInv v m (by decide) h)
  | tick efreg => exact checkIrq_storageInv (timersTick_storageInv ((turnKeeps_mix s efreg).storage h))
  | fadeConfigure lengthS fadeS => exact h
  | fadeAdvance => exact h
  | reset => exact resetOp_storageInv h
  | midi => exact checkIrq_storageInv (s := s.setMidi true) h

/-- Settles O58: each effect is made of writes of stored words and of wave-RAM bytes below `RAM_SIZE`. -/
theorem stepKeepsStorage : Obligations.StepKeepsStorage := by
  intro s t hstorage hstep
  exact step_keeps storageInv_quiet effect_storageInv hstorage hstep

end Sys2Proof.Proofs
end

section
/-! Every step keeps what holds of every slot (R24, R33 to R36, R225). -/

namespace Sys2Proof.Proofs

open Sys2Proof Sys2Proof.Machine

/-! ### Updates that leave the slots and their latching words alone -/

/-- `t` has the parameters and the slots of `s`, and the words that the slot invariants speak of. -/
structure SlotsSame (s t : State) : Prop where
  params : t.params = s.params
  slots : t.slots = s.slots
  words : ∀ i, ∀ o ∈ latchedOffsets, t.sr i o = s.sr i o

theorem slotsSame_trans {s t u : State} (h : SlotsSame s t) (g : SlotsSame t u) : SlotsSame s u :=
  ⟨g.params.trans h.params, g.slots.trans h.slots, fun i o ho => (g.words i o ho).trans (h.words i o ho)⟩

theorem slotsSame_keeps {s t : State} (h : SlotsSame s t) (hs : s.kyonexInv ∧ s.slotInv) : t.kyonexInv ∧ t.slotInv := by
  obtain ⟨hkyonex, hslots⟩ := hs
  constructor
  · intro i
    rw [h.words i 0x00 (by decide)]
    exact hkyonex i
  · refine slotInv_congr h.params h.slots (fun i o ho => h.words i o ?_) hslots
    exact List.mem_cons_of_mem _ ho

theorem slotsSame_setReg (s : State) {a : Nat} (v : Word) (ha : ∀ i, ∀ o ∈ latchedOffsets, a ≠ slotReg i o) :
    SlotsSame s (s.setReg a v) :=
  ⟨rfl, rfl, fun i o ho => State.setReg_reg_ne s v (ha i o ho).symm⟩

theorem ne_slotReg_of_ge {a : Nat} (ha : 0x2000 ≤ a) : ∀ i, ∀ o ∈ latchedOffsets, a ≠ slotReg i o := by
  intro i o ho
  have := slotReg_lt i (latchedOffsets_lt ho)
  omega

theorem slotsSame_pokeRam (s : State) (a : Nat) (b : Byte) : SlotsSame s (s.pokeRam a b) := by
  unfold State.pokeRam
  split <;> exact ⟨rfl, rfl, fun _ _ _ => rfl⟩

theorem slotsSame_acknowledge (s : State) : SlotsSame s s.acknowledge := by
  have hpending := slotsSame_setReg s (s.reg scipd &&& ~~~ s.reg scire) (ne_slotReg_of_ge (show 0x2000 ≤ scipd by decide))
  unfold State.acknowledge
  dsimp only
  split
  · exact slotsSame_trans hpending ⟨rfl, rfl, fun _ _ _ => rfl⟩
  · exact hpending

theorem slotsSame_requestClear (s : State) : SlotsSame s s.requestClear := by
  unfold State.requestClear
  split <;> exact ⟨rfl, rfl, fun _ _ _ => rfl⟩

theorem slotsSame_checkIrq (s : State) : SlotsSame s s.checkIrq := by
  rw [State.checkIrq_frame]
  exact ⟨rfl, rfl, fun _ _ _ => rfl⟩

theorem slotsSame_timersTick (s : State) : SlotsSame s s.timersTick where
  params := by rw [State.timersTick_frame]
  slots := by rw [State.timersTick_frame]
  words i o ho := by
    have hlt := slotReg_lt i (latchedOffsets_lt ho)
    refine State.timersTick_reg s (fun k => (timerReg_ne_slotReg k i (latchedOffsets_lt ho)).symm) ?_
    unfold scipd
    omega

/-! ### Host writes of the latching words -/

/-- A store of a word of slot `i` leaves every other slot good. -/
theorem store_others_good {s : State} {i : Fin 64} {o : Nat} (v m : Word) (ho : o < 0x80) (h : s.slotInv) (j : Fin 64)
    (hj : j ≠ i) : SlotGood (s.store (slotReg i o) v m) j s.slots[j] := by
  refine slotGood_congr (s := s) rfl (fun p hp => ?_) ((slotInv_iff s).mp h j)
  have hp' : p < 0x80 := latchedOffsets_lt (List.mem_cons_of_mem _ hp)
  exact State.setReg_sr_ne s _ ho hp' fun e => hj e.1

theorem store_sr_ne (s : State) (i : Fin 64) {o p : Nat} (v m : Word) (ho : o < 0x80) (hp : p < 0x80) (hne : p ≠ o) :
    (s.store (slotReg i o) v m).sr i p = s.sr i p :=
  State.setReg_sr_ne s _ ho hp fun e => hne e.2

/-- A write of word 0x14 latches the threshold of the word it leaves (R133). -/
theorem slotEgrel_slotInv {s : State} (i : Fin 64) (v m : Word) (h : s.slotInv) :
    ((s.store (slotReg i 0x14) v m).latchRelease i).slotInv := by
  have hx := (slotInv_iff s).mp h i
  have h18 := store_sr_ne s i v m (o := 0x14) (p := 0x18) (by decide) (by decide) (by decide)
  have h1C := store_sr_ne s i v m (o := 0x14) (p := 0x1C) (by decide) (by decide) (by decide)
  refine setSlot_slotInv (store_others_good v m (by decide) h)
    ⟨hx.volume, hx.adpcm, fun hact => ?_, plfoLatched_congr (s := s) rfl h1C hx.plfo,
      alfoLatched_congr (s := s) rfl h1C hx.alfo⟩
  obtain ⟨hnxt, hstep, _⟩ := hx.active hact
  exact ⟨hnxt, hstep.trans (pitchStep_congr h18).symm, dlThreshold_toNat _ i⟩

/-- A write of word 0x18 latches the pitch step of the word it leaves (R134). -/
theorem slotPitch_slotInv {s : State} (i : Fin 64) (v m : Word) (h : s.slotInv) :
    ((s.store (slotReg i 0x18) v m).latchPitch i).slotInv := by
  have hx := (slotInv_iff s).mp h i
  have h14 := store_sr_ne s i v m (o := 0x18) (p := 0x14) (by decide) (by decide) (by decide)
  have h1C := store_sr_ne s i v m (o := 0x18) (p := 0x1C) (by decide) (by decide) (by decide)
  refine setSlot_slotInv (store_others_good v m (by decide) h)
    ⟨hx.volume, hx.adpcm, fun hact => ?_, plfoLatched_congr (s := s) rfl h1C hx.plfo,
      alfoLatched_congr (s := s) rfl h1C hx.alfo⟩
  obtain ⟨hnxt, _, hdl⟩ := hx.active hact
  exact ⟨hnxt, rfl, by rwa [dl_congr h14]⟩

/-- A write of word 0x1C latches the LFOs by the word it leaves (R135, R225). -/
theorem slotLfo_slotInv {s : State} (i : Fin 64) (v m : Word) (h : s.slotInv) :
    ((s.store (slotReg i 0x1C) v m).latchLfo i).slotInv := by
  have hx := (slotInv_iff s).mp h i
  have h14 := store_sr_ne s i v m (o := 0x1C) (p := 0x14) (by decide) (by decide) (by decide)
  have h18 := store_sr_ne s i v m (o := 0x1C) (p := 0x18) (by decide) (by decide) (by decide)
  refine setSlot_slotInv (store_others_good v m (by decide) h) (computeLfo_good hx.volume hx.adpcm ?_)
  rw [pitchStep_congr h18, dl_congr h14]
  exact hx.active

/-- A write of a slot word other than 0x00 leaves KYONEX as it is in every slot, whatever it latches. -/
theorem setSlot_store_kyonexInv {s : State} (i : Fin 64) {o : Nat} (v m : Word) (x : Slot) (ho : o < 0x80)
    (hne : o ≠ 0x00) (h : s.kyonexInv) : ((s.store (slotReg i o) v m).setSlot i x).kyonexInv := by
  intro j
  rw [State.setSlot_sr]
  exact (setReg_kyonex_ne s _ j fun e => hne ((slotReg_inj (by decide) ho).mp e).2.symm).trans (h j)

/-! ### The key scan and RESET -/

/-- KYONEX runs the scan and then reads 0 (R125, R24). -/
theorem keyExecute_keeps {s : State} (i : Fin 64) (hstorage : s.storageInv)
    (hkyonex : ∀ j, j ≠ i → s.kyonex j = false) (hslots : s.slotInv) :
    (s.keyExecute i).kyonexInv ∧ (s.keyExecute i).slotInv := by
  have hscan := turnKeeps_keyScan s
  unfold State.keyExecute
  split
  · refine ⟨fun j => ?_, setReg_slotInv i _ (by decide) (by decide) (hscan.slots hslots)⟩
    dsimp only
    rw [State.setReg_sr _ i j _ (by decide) (by decide) (hscan.storage hstorage).1]
    split
    · simp
    · rename_i hj
      exact (hscan.kyonex hstorage j).trans (hkyonex j fun e => hj ⟨e, rfl⟩)
  · rename_i hi
    refine ⟨fun j => ?_, hslots⟩
    by_cases hj : j = i
    · rw [hj]
      exact Bool.eq_false_iff.mpr hi
    · exact hkyonex j hj

theorem slotCtrl_keeps {s : State} (i : Fin 64) (v m : Word) (hstorage : s.storageInv)
    (h : s.kyonexInv ∧ s.slotInv) :
    ((s.store (slotReg i 0x00) v m).keyExecute i).kyonexInv ∧ ((s.store (slotReg i 0x00) v m).keyExecute i).slotInv := by
  obtain ⟨hkyonex, hslots⟩ := h
  refine keyExecute_keeps i (store_storageInv v m (storedReg_slotReg i (by decide) (by decide)) hstorage) (fun j hj => ?_)
    (setReg_slotInv i _ (by decide) (by decide) hslots)
  exact (setReg_kyonex_ne s _ j fun e => hj ((slotReg_inj (by decide) (by decide)).mp e).1).trans (hkyonex j)

theorem bits_zero (hi lo : Nat) : bits 0 hi lo = 0 := by simp [bits]

/-- After RESET every word reads 0 and every slot is idle (R330, R43). -/
theorem resetOp_keeps (s : State) : s.resetOp.kyonexInv ∧ s.resetOp.slotInv := by
  refine ⟨fun i => ?_, (slotInv_iff _).mpr fun i => ?_⟩
  · change (0 : Word).getLsbD 15 = false
    decide
  · have hidle : s.resetOp.slots[i] = Slot.idle := by simp [State.resetOp]
    rw [hidle]
    exact
      { volume := ⟨le_rfl, maxVolume_nonneg _⟩
        adpcm := adpcmIdle_inRange
        active := fun hact => absurd hact Bool.false_ne_true
        plfo := fun hdepth => absurd (bits_zero 7 5) hdepth
        alfo := fun hdepth => absurd (bits_zero 2 0) hdepth }

/-! ### The step -/

theorem slots_quiet {s t : State} (hq : quietFrame s t) (h : s.kyonexInv ∧ s.slotInv) : t.kyonexInv ∧ t.slotInv := by
  rw [hq]
  exact h

theorem effect_keeps_slots {s t : State} (he : Effect s t) (hstorage : s.storageInv) (h : s.kyonexInv ∧ s.slotInv) :
    t.kyonexInv ∧ t.slotInv := by
  have hstore : ∀ {a : Nat} (v m : Word), 0x2000 ≤ a → SlotsSame s (s.store a v m) :=
    fun v m ha => slotsSame_setReg s _ (ne_slotReg_of_ge ha)
  have ⟨hkyonex, hslots⟩ := h
  cases he with
  | none => exact h
  | pokeRam a b => exact slotsSame_keeps (slotsSame_pokeRam s a b) h
  | store v m ha => exact slotsSame_keeps (slotsSame_setReg s _ ha.notLatched) h
  | slotCtrl i v m => exact slotCtrl_keeps i v m hstorage h
  | slotEgrel i v m =>
    exact ⟨setSlot_store_kyonexInv i v m _ (by decide) (by decide) hkyonex, slotEgrel_slotInv i v m hslots⟩
  | slotPitch i v m =>
    exact ⟨setSlot_store_kyonexInv i v m _ (by decide) (by decide) hkyonex, slotPitch_slotInv i v m hslots⟩
  | slotLfo i v m =>
    exact ⟨setSlot_store_kyonexInv i v m _ (by decide) (by decide) hkyonex, slotLfo_slotInv i v m hslots⟩
  | timer k v m =>
    have hword := hstore v m (le_trans (by decide) (timerReg_ge k))
    exact slotsSame_keeps (slotsSame_trans hword ⟨rfl, rfl, fun _ _ _ => rfl⟩) h
  | scire v m => exact slotsSame_keeps (slotsSame_trans (hstore v m (by decide)) (slotsSame_acknowledge _)) h
  | irqr v m => exact slotsSame_keeps (slotsSame_trans (hstore v m (by decide)) (slotsSame_requestClear _)) h
  | tick efreg =>
    have hmix := turnKeeps_mix s efreg
    refine slotsSame_keeps (slotsSame_trans (slotsSame_timersTick _) (slotsSame_checkIrq _)) ⟨?_, hmix.slots hslots⟩
    exact fun i => (hmix.kyonex hstorage i).trans (hkyonex i)
  | fadeConfigure lengthS fadeS => exact h
  | fadeAdvance => exact h
  | reset => exact resetOp_keeps s
  | midi => exact slotsSame_keeps (slotsSame_checkIrq (s.setMidi true)) h

/-- Settles O59: each effect keeps the slots good together with the stores' form, which reading back KYONEX needs. -/
theorem stepKeepsSlots : Obligations.StepKeepsSlots := by
  intro s t hstorage hkyonex hslots hstep
  exact (step_keeps (P := fun s => s.storageInv ∧ s.kyonexInv ∧ s.slotInv)
    (fun hq h => ⟨storageInv_quiet hq h.1, slots_quiet hq h.2⟩)
    (fun he h => ⟨effect_storageInv he h.1, effect_keeps_slots he h.1 h.2⟩) ⟨hstorage, hkyonex, hslots⟩ hstep).2

end Sys2Proof.Proofs
end

section
/-! Every step keeps what holds of the timers, the fader and the interrupt line (R38, R261, R262, R281, R265). -/

namespace Sys2Proof.Proofs

open Sys2Proof Sys2Proof.Machine

/-! ### Timers -/

/-- What `State.timerInv` says of a timer: its counter `c` and its word `w` (R38, R261). -/
def TimerGood (c : BitVec 16) (w : Word) : Prop := c = 0xFFFF ∨ (c.toNat ≤ 0xFF00 ∧ bits w 7 0 = c.toNat / 256)

theorem timerInv_iff (s : State) : s.timerInv ↔ ∀ k : Fin 3, TimerGood s.timCnt[k] (s.reg (timerReg k)) := Iff.rfl

theorem bits_low (w : Word) : bits w 7 0 = w.toNat % 256 := by simp [bits]

/-- The word of a timer after its turn shows the counter's high byte (R261). -/
theorem bits_withValueByte (w : Word) (c : BitVec 16) : bits (withValueByte w c) 7 0 = c.toNat / 256 := by
  have hc : c.toNat / 256 < 256 := by omega
  rw [bits_low, withValueByte, BitVec.toNat_or, BitVec.toNat_and, BitVec.toNat_ushiftRight, Nat.shiftRight_eq_div_pow,
    show 256 = 2 ^ 8 from rfl, Nat.or_mod_two_pow, Nat.and_mod_two_pow]
  simp [Nat.mod_eq_of_lt hc]

/-- The counter after a turn is stopped or at most 0xFF00 (R261). -/
theorem timerNext_cases (c : BitVec 16) (p : Nat) : timerNext c p = 0xFFFF ∨ (timerNext c p).toNat ≤ 0xFF00 := by
  unfold timerNext
  split
  · exact .inl rfl
  · refine .inr ?_
    rw [BitVec.toNat_ofNat]
    exact le_trans (Nat.mod_le _ _) (by omega)

theorem timerReg_inj {j k : Fin 3} : timerReg j = timerReg k ↔ j = k := by
  unfold timerReg
  omega

theorem scipd_ne_timerReg (k : Fin 3) : timerReg k ≠ scipd := by
  unfold timerReg scipd
  omega

/-- The timers stay good where their counters and their words stay. -/
theorem timerInv_congr {s t : State} (hcnt : t.timCnt = s.timCnt) (hwords : ∀ k, t.reg (timerReg k) = s.reg (timerReg k))
    (h : s.timerInv) : t.timerInv := by
  rw [timerInv_iff] at h ⊢
  intro k
  rw [hcnt, hwords k]
  exact h k

theorem store_timerInv {s : State} {a : Nat} (v m : Word) (ha : ∀ k, a ≠ timerReg k) (h : s.timerInv) :
    (s.store a v m).timerInv := timerInv_congr (s := s) rfl (fun k => State.store_reg_ne s v m (ha k).symm) h

/-- Timer `k` replaced by a good one, while the words of the others stay. -/
theorem timerInv_of_one {s t : State} {k : Fin 3} (hcnt : ∀ j, j ≠ k → t.timCnt[j] = s.timCnt[j])
    (hwords : ∀ j, j ≠ k → t.reg (timerReg j) = s.reg (timerReg j)) (hk : TimerGood t.timCnt[k] (t.reg (timerReg k)))
    (h : s.timerInv) : t.timerInv := by
  rw [timerInv_iff] at h ⊢
  intro j
  by_cases hj : j = k
  · rw [hj]
    exact hk
  · rw [hcnt j hj, hwords j hj]
    exact h j

/-- A timer write reloads the counter from the value byte it leaves (R262). -/
theorem timerWrite_timerInv {s : State} (k : Fin 3) (v m : Word) (h : s.timerInv) :
    ((s.store (timerReg k) v m).reloadTimer k).timerInv := by
  refine timerInv_of_one (s := s) (k := k) (fun j hj => State.setTim_cnt_ne _ _ hj)
    (fun j hj => State.store_reg_ne s v m fun e => hj (timerReg_inj.mp e)) (.inr ?_) h
  unfold State.reloadTimer
  rw [State.setTim_cnt_self, State.setTim_reg, bits_low, BitVec.toNat_ofNat]
  omega

/-- A running counter shown in its word is good. -/
theorem timerGood_shown {u : State} {k : Fin 3} {c : BitVec 16} (hregs : RegFile.wf u.regs = true)
    (hcnt : u.timCnt[k] = c) (hc : c.toNat ≤ 0xFF00) :
    TimerGood u.timCnt[k] ((u.setReg (timerReg k) (withValueByte (u.reg (timerReg k)) c)).reg (timerReg k)) := by
  rw [State.setReg_reg_self _ _ _ hregs, hcnt]
  exact .inr ⟨hc, bits_withValueByte _ c⟩

theorem timerTick_timCnt_ne (s : State) {k : Fin 3} (j : Fin 3) (hj : j ≠ k) :
    (s.timerTick k).timCnt[j] = s.timCnt[j] := by
  unfold State.timerTick
  dsimp only
  split
  · split <;> exact State.setTim_cnt_ne s _ hj
  · rfl

/-- A timer's turn advances its counter and shows it in its word, or leaves a stopped counter alone (R261). -/
theorem timerTick_timerInv {s : State} (k : Fin 3) (hstorage : s.storageInv) (h : s.timerInv) :
    (s.timerTick k).timerInv := by
  refine timerInv_of_one (k := k) (timerTick_timCnt_ne s)
    (fun j hj => State.timerTick_reg s k (fun e => hj (timerReg_inj.mp e)) (scipd_ne_timerReg j)) ?_ h
  unfold State.timerTick
  dsimp only
  split
  · split
    · rename_i hstopped
      exact .inl ((State.setTim_cnt_self s k _).trans hstopped)
    · rename_i hrunning
      exact timerGood_shown (u := s.setTim k _) hstorage.1 (State.setTim_cnt_self s k _)
        ((timerNext_cases _ _).resolve_left hrunning)
  · exact h k

theorem timersTick_timerInv {s : State} (hstorage : s.storageInv) (h : s.timerInv) : s.timersTick.timerInv := by
  have hstorage0 := timerTick_storageInv 0 hstorage
  have hstorage1 := timerTick_storageInv 1 hstorage0
  exact timerTick_timerInv 2 hstorage1 (timerTick_timerInv 1 hstorage0 (timerTick_timerInv 0 hstorage h))

theorem keyExecute_timerInv {s : State} (i : Fin 64) (h : s.timerInv) : (s.keyExecute i).timerInv := by
  have hscan : s.keyScan.timerInv :=
    timerInv_congr (by rw [State.keyScan_frame s]) (turnKeeps_keyScan s).timerWords h
  unfold State.keyExecute
  split
  · exact timerInv_congr (s := s.keyScan) rfl
      (fun k => State.setReg_reg_ne _ _ (timerReg_ne_slotReg k i (by decide))) hscan
  · exact h

theorem mix_timerInv {s : State} (efreg : List Word) (h : s.timerInv) : (s.mix efreg).state.timerInv :=
  timerInv_congr (by rw [State.mix_frame s efreg]) (turnKeeps_mix s efreg).timerWords h

theorem acknowledge_timerInv {s : State} (h : s.timerInv) : s.acknowledge.timerInv := by
  have hpending : (s.setReg scipd (s.reg scipd &&& ~~~ s.reg scire)).timerInv :=
    timerInv_congr (s := s) rfl (fun k => State.setReg_reg_ne s _ (scipd_ne_timerReg k)) h
  unfold State.acknowledge
  dsimp only
  split <;> exact hpending

theorem requestClear_timerInv {s : State} (h : s.timerInv) : s.requestClear.timerInv := by
  unfold State.requestClear
  split <;> exact h

theorem pokeRam_timerInv {s : State} (a : Nat) (b : Byte) (h : s.timerInv) : (s.pokeRam a b).timerInv := by
  unfold State.pokeRam
  split <;> exact h

theorem checkIrq_timerInv {s : State} (h : s.timerInv) : s.checkIrq.timerInv := by
  rw [State.checkIrq_frame]
  exact h

theorem resetOp_timerInv (s : State) : s.resetOp.timerInv := by
  intro k
  exact .inl (by simp [State.resetOp])

theorem effect_timerInv {s t : State} (he : Effect s t) (hstorage : s.storageInv) (h : s.timerInv) : t.timerInv := by
  have hslot : ∀ (i : Fin 64) {o : Nat} (v m : Word), o < 0x80 → (s.store (slotReg i o) v m).timerInv :=
    fun i _ v m ho => store_timerInv v m (fun k => (timerReg_ne_slotReg k i ho).symm) h
  cases he with
  | none => exact h
  | pokeRam a b => exact pokeRam_timerInv a b h
  | store v m ha => exact store_timerInv v m ha.notTimer h
  | slotCtrl i v m => exact keyExecute_timerInv i (hslot i v m (by decide))
  | slotEgrel i v m => exact hslot i v m (o := 0x14) (by decide)
  | slotPitch i v m => exact hslot i v m (o := 0x18) (by decide)
  | slotLfo i v m => exact hslot i v m (o := 0x1C) (by decide)
  | timer k v m => exact timerWrite_timerInv k v m h
  | scire v m => exact acknowledge_timerInv (store_timerInv v m (by decide) h)
  | irqr v m => exact requestClear_timerInv (store_timerInv v m (by decide) h)
  | tick efreg =>
    exact checkIrq_timerInv (timersTick_timerInv ((turnKeeps_mix s efreg).storage hstorage) (mix_timerInv efreg h))
  | fadeConfigure lengthS fadeS => exact h
  | fadeAdvance => exact h
  | reset => exact resetOp_timerInv s
  | midi => exact checkIrq_timerInv (s := s.setMidi true) h

/-! ### The fader -/

/-- What `State.fadeInv` says of the fader (R281). -/
def FaderGood (f : Fader) : Prop :=
  f.beginAt.toNat ≤ f.endAt.toNat ∧
    (f.enabled = false → f.done = false ∧ f.beginAt.toNat = 0xFFFFFFFF ∧ f.endAt.toNat = 0xFFFFFFFF)

theorem fadeInv_iff (s : State) : s.fadeInv ↔ FaderGood s.fade := Iff.rfl

theorem sat32_toNat (n : Nat) : (sat32 n).toNat = min n 0xFFFFFFFF := by
  unfold sat32
  rw [BitVec.toNat_ofNat]
  omega

/-- The end of a configured fade is not before its begin: both saturate (R281, R282). -/
theorem configure_good (f : Fader) (lengthS fadeS : BitVec 64) : FaderGood (f.configure lengthS fadeS) := by
  unfold Fader.configure
  split
  · exact ⟨le_rfl, fun _ => ⟨rfl, rfl, rfl⟩⟩
  · refine ⟨?_, fun hdisabled => absurd hdisabled.symm Bool.false_ne_true⟩
    dsimp only
    rw [sat32_toNat, sat32_toNat]
    omega

/-- A disabled fade is never at its end, so that an advance leaves it not done (R283). -/
theorem next_good {f : Fader} (h : FaderGood f) : FaderGood f.next := by
  refine ⟨h.1, fun hdisabled => ?_⟩
  have hoff : f.enabled = false := hdisabled
  obtain ⟨hdone, hbounds⟩ := h.2 hoff
  refine ⟨?_, hbounds⟩
  simp [Fader.next, Fader.atEnd, hdone, hoff]

theorem idle_good : FaderGood Fader.idle := ⟨le_rfl, fun _ => ⟨rfl, rfl, rfl⟩⟩

/-! ### The interrupt line -/

/-- `CheckIrq` asserts the line for a source, or changes nothing (R265). -/
theorem checkIrq_asserts (s : State) : s.checkIrq = s ∨ ∃ src, src ≠ .none ∧ s.checkIrq = s.assertIrq src := by
  rcases s.checkIrq_cases with ⟨_, hc⟩ | ⟨_, _, hc⟩ | ⟨_, _, _, hc⟩ | ⟨_, _, _, _, hc⟩ | ⟨_, _, _, _, hc⟩
  · exact .inr ⟨.midi, by decide, hc⟩
  · exact .inr ⟨.tima, by decide, hc⟩
  · exact .inr ⟨.timb, by decide, hc⟩
  · exact .inr ⟨.timc, by decide, hc⟩
  · exact .inl hc

theorem checkIrq_irqInv {s : State} (h : s.irqInv) : s.checkIrq.irqInv := by
  rcases checkIrq_asserts s with hc | ⟨src, hsrc, hc⟩
  · rwa [hc]
  · rw [hc]
    exact fun _ => hsrc

/-- An acknowledgement deasserts the line or leaves it as it is; the source stays (R266). -/
theorem acknowledge_irqInv {s : State} (h : s.irqInv) : s.acknowledge.irqInv := by
  unfold State.acknowledge
  dsimp only
  split
  · exact fun hline => absurd hline Bool.false_ne_true
  · exact h

theorem requestClear_irqInv {s : State} (h : s.irqInv) : s.requestClear.irqInv := by
  unfold State.requestClear
  split
  · exact fun hline => absurd hline Bool.false_ne_true
  · exact h

theorem acknowledge_fade (s : State) : s.acknowledge.fade = s.fade := by
  unfold State.acknowledge
  dsimp only
  split <;> rfl

theorem requestClear_fade (s : State) : s.requestClear.fade = s.fade := by
  unfold State.requestClear
  split <;> rfl

theorem checkIrq_fade (s : State) : s.checkIrq.fade = s.fade := by rw [State.checkIrq_frame]

/-! ### The step -/

/-- The fader and the line stay where an update keeps the frame of the key scan and of the mix. -/
theorem fadeLine_scanFrame {s t : State} (hframe : s.scanFrame t) (h : s.fadeInv ∧ s.irqInv) : t.fadeInv ∧ t.irqInv := by
  rw [hframe]
  exact h

theorem keyExecute_frame (s : State) (i : Fin 64) : s.scanFrame (s.keyExecute i) := by
  unfold State.keyExecute
  split
  · exact State.scanFrame_trans s.keyScan_frame rfl
  · rfl

theorem pokeRam_fadeLine {s : State} (a : Nat) (b : Byte) (h : s.fadeInv ∧ s.irqInv) :
    (s.pokeRam a b).fadeInv ∧ (s.pokeRam a b).irqInv := by
  unfold State.pokeRam
  split <;> exact h

theorem checkIrq_fadeLine {s : State} (h : s.fadeInv ∧ s.irqInv) : s.checkIrq.fadeInv ∧ s.checkIrq.irqInv := by
  refine ⟨?_, checkIrq_irqInv h.2⟩
  rw [fadeInv_iff, checkIrq_fade]
  exact h.1

theorem timersTick_fadeLine {s : State} (h : s.fadeInv ∧ s.irqInv) : s.timersTick.fadeInv ∧ s.timersTick.irqInv := by
  rw [State.timersTick_frame]
  exact h

theorem tick_fadeLine {s : State} (efreg : List Word) (h : s.fadeInv ∧ s.irqInv) :
    (s.mix efreg).state.timersTick.checkIrq.fadeInv ∧ (s.mix efreg).state.timersTick.checkIrq.irqInv :=
  checkIrq_fadeLine (timersTick_fadeLine (fadeLine_scanFrame (s.mix_frame efreg) h))

theorem effect_fadeLine {s t : State} (he : Effect s t) (h : s.fadeInv ∧ s.irqInv) : t.fadeInv ∧ t.irqInv := by
  have ⟨hfade, hline⟩ := h
  cases he with
  | none => exact h
  | pokeRam a b => exact pokeRam_fadeLine a b h
  | store v m ha => exact h
  | slotCtrl i v m => exact fadeLine_scanFrame (keyExecute_frame (s.store (slotReg i 0x00) v m) i) h
  | slotEgrel i v m => exact h
  | slotPitch i v m => exact h
  | slotLfo i v m => exact h
  | timer k v m => exact h
  | scire v m =>
    refine ⟨?_, acknowledge_irqInv hline⟩
    rw [fadeInv_iff, acknowledge_fade]
    exact hfade
  | irqr v m =>
    refine ⟨?_, requestClear_irqInv hline⟩
    rw [fadeInv_iff, requestClear_fade]
    exact hfade
  | tick efreg => exact tick_fadeLine efreg h
  | fadeConfigure lengthS fadeS => exact ⟨configure_good s.fade lengthS fadeS, hline⟩
  | fadeAdvance => exact ⟨next_good hfade, hline⟩
  | reset => exact ⟨idle_good, fun hasserted => absurd hasserted Bool.false_ne_true⟩
  | midi => exact checkIrq_fadeLine (s := s.setMidi true) h

theorem timersFadeLine_quiet {s t : State} (hq : quietFrame s t) (h : s.timerInv ∧ s.fadeInv ∧ s.irqInv) :
    t.timerInv ∧ t.fadeInv ∧ t.irqInv := by
  rw [hq]
  exact h

/-- Settles O60: each effect keeps the three invariants; reading back a timer's word needs the stores' form. -/
theorem stepKeepsTimersFadeLine : Obligations.StepKeepsTimersFadeLine := by
  intro s t hstorage htimer hfade hline hstep
  exact (step_keeps (P := fun s => s.storageInv ∧ s.timerInv ∧ s.fadeInv ∧ s.irqInv)
    (fun hq h => ⟨storageInv_quiet hq h.1, timersFadeLine_quiet hq h.2⟩)
    (fun he h => ⟨effect_storageInv he h.1, effect_timerInv he h.1 h.2.1, effect_fadeLine he h.2.2⟩)
    ⟨hstorage, htimer, hfade, hline⟩ hstep).2

end Sys2Proof.Proofs
end

section
/-! A slot's run depends on what the slot shows alone; what a TICK does to one slot (R182, R250). -/

namespace Sys2Proof.Proofs

open Sys2Proof Sys2Proof.Machine

/-! ### States that agree on a slot -/

theorem agreeOn_refl (s : State) (i : Fin 64) : s.agreeOn s i := ⟨rfl, fun _ _ => rfl, rfl, fun _ => rfl, rfl⟩

theorem agreeOn_sr {s t : State} {i : Fin 64} (h : s.agreeOn t i) {o : Nat} (ho : o < 0x80) : t.sr i o = s.sr i o :=
  h.2.1 o ho

/-- An update that keeps the frame of a slot's turn, the slot itself and its words leaves all that the slot reads. -/
theorem agreeOn_of_scanFrame {s t : State} {i : Fin 64} (hframe : s.scanFrame t) (hslot : t.slots[i] = s.slots[i])
    (hwords : ∀ o, o < 0x80 → t.reg (slotReg i o) = s.reg (slotReg i o)) : s.agreeOn t i := by
  refine ⟨hslot, hwords, ?_, fun a => ?_, ?_⟩
  · rw [hframe]
  · rw [hframe]; rfl
  · rw [hframe]

section
variable {s t : State} {i : Fin 64} (h : s.agreeOn t i)
include h

theorem agreeOn_params : t.params = s.params := h.2.2.1

theorem sa_congr : t.sa i = s.sa i := by
  unfold State.sa
  rw [agreeOn_sr h (o := 0x00) (by decide), agreeOn_sr h (o := 0x04) (by decide)]

theorem pcms_congr : t.pcms i = s.pcms i := congrArg (bits · 8 7) (agreeOn_sr h (o := 0x00) (by decide))

theorem ssctl_congr : t.ssctl i = s.ssctl i := congrArg (BitVec.getLsbD · 10) (agreeOn_sr h (o := 0x00) (by decide))

theorem lpctl_congr : t.lpctl i = s.lpctl i := congrArg (BitVec.getLsbD · 9) (agreeOn_sr h (o := 0x00) (by decide))

theorem lsa_congr : t.lsa i = s.lsa i := congrArg BitVec.toNat (agreeOn_sr h (o := 0x08) (by decide))

theorem lea_congr : t.lea i = s.lea i := congrArg BitVec.toNat (agreeOn_sr h (o := 0x0C) (by decide))

theorem d2r_congr : t.d2r i = s.d2r i := congrArg (bits · 15 11) (agreeOn_sr h (o := 0x10) (by decide))

theorem lpslnk_congr : t.lpslnk i = s.lpslnk i := congrArg (BitVec.getLsbD · 14) (agreeOn_sr h (o := 0x14) (by decide))

theorem plfos_congr : t.plfos i = s.plfos i := congrArg (bits · 7 5) (agreeOn_sr h (o := 0x1C) (by decide))

theorem alfos_congr : t.alfos i = s.alfos i := congrArg (bits · 2 0) (agreeOn_sr h (o := 0x1C) (by decide))

/-! ### The pieces of a slot's run -/

theorem memByte_congr (a d : Nat) : t.memByte a d = s.memByte a d := by
  unfold State.memByte
  rw [agreeOn_params h, show cellsRead t.ram (waveMask a) = cellsRead s.ram (waveMask a) from h.2.2.2.1 _]

theorem memWord_congr (a d : Nat) : t.memWord a d = s.memWord a d := by
  simp only [State.memWord, memByte_congr h]

theorem adpcmWalkStep_congr (i1 : Nat) (w : AdpcmWalk) : t.adpcmWalkStep i1 w = s.adpcmWalkStep i1 w := by
  simp only [State.adpcmWalkStep, State.nibble, memByte_congr h, agreeOn_params h]

theorem adpcmWalk_congr (i1 fuel : Nat) (w : AdpcmWalk) : t.adpcmWalk i1 fuel w = s.adpcmWalk i1 fuel w := by
  induction fuel generalizing w with
  | zero => rfl
  | succ fuel ih => rw [State.adpcmWalk, State.adpcmWalk, adpcmWalkStep_congr h, ih]

theorem fetch_congr (x : Slot) (d : Nat) : t.fetch i x d = s.fetch i x d := by
  simp only [State.fetch, State.fetchPcm16, State.fetchPcm8, State.fetchAdpcm, pcms_congr h, sa_congr h, memByte_congr h,
    memWord_congr h, adpcmWalk_congr h]

theorem pitchUse_congr (x : Slot) (d : Nat) : t.pitchUse i x d = s.pitchUse i x d := by
  have hnoise : t.noise = s.noise := h.2.2.2.2
  simp only [State.pitchUse, State.pitchGain, State.pitchScale, State.pitchWave, plfos_congr h, agreeOn_params h, hnoise]

theorem ampUse_congr (l : Lfo) (x : Int) (d : Nat) : t.ampUse i l x d = s.ampUse i l x d := by
  have hnoise : t.noise = s.noise := h.2.2.2.2
  simp only [State.ampUse, State.ampGain, State.ampScale, State.ampWave, alfos_congr h, agreeOn_params h, hnoise]

theorem advance_congr (x : Slot) (stepEff : Nat) : t.advance i x stepEff = s.advance i x stepEff := by
  simp only [State.advance, lsa_congr h, lpslnk_congr h]

theorem wrap_congr (x : Slot) : t.wrap i x = s.wrap i x := by
  simp only [State.wrap, lsa_congr h, lea_congr h, sa_congr h, pcms_congr h]

theorem loopControl_congr (x : Slot) : t.loopControl i x = s.loopControl i x := by
  simp only [State.loopControl, lpctl_congr h, lsa_congr h, lea_congr h, wrap_congr h]

/-- A slot's run reads what `State.agreeOn` names and the draw counter, nothing else (R182). -/
theorem slotRun_congr (hdraws : t.draws = s.draws) (x : Slot) : t.slotRun i x = s.slotRun i x := by
  simp only [State.slotRun, hdraws, pitchUse_congr h, fetch_congr h, advance_congr h, loopControl_congr h, ampUse_congr h,
    agreeOn_params h, lpslnk_congr h, d2r_congr h]

/-- A slot's own state after its update, from two states that agree on the slot and have drawn as often. -/
theorem slotUpdate_slot_congr (hdraws : t.draws = s.draws) : (t.slotUpdate i).1.slots[i] = (s.slotUpdate i).1.slots[i] := by
  unfold State.slotUpdate
  rw [ssctl_congr h]
  split
  · exact h.1
  · dsimp only
    rw [State.commitRun_slot, State.commitRun_slot, h.1, slotRun_congr h hdraws]

end

/-! ### One slot in a TICK -/

/-- A TICK before the first slot's turn: nothing mixed, nothing sent (R250). -/
def mixStart (s : State) : Mix := { state := s, accL := 0, accR := 0, sends := [] }

/-- The turns of other slots leave all that a slot reads. -/
theorem slotTurns_agreeOn (m : Mix) {l : List (Fin 64)} {i : Fin 64} (hi : i ∉ l) :
    m.state.agreeOn (m.slotTurns l).state i := by
  refine agreeOn_of_scanFrame (m.slotTurns_frame l) (m.slotTurns_slot_notMem l hi) fun o ho => ?_
  refine m.slotTurns_reg l fun k hk e => hi ?_
  obtain ⟨hki, -⟩ := (slotReg_inj ho (by decide)).mp e
  exact hki ▸ hk

/-- The timers, the interrupt line and the result leave the slots alone (R250). -/
theorem tick_slots (s : State) (efreg : List Word) : (s.tick efreg).slots = (s.mix efreg).state.slots := by
  unfold State.tick
  rw [State.ret_slots, State.checkIrq_frame, State.timersTick_frame]

/-- A TICK does to an active slot what the slot's own update does, from the draw counter that the slots before it left. -/
theorem tick_slot (s : State) (efreg : List Word) {i : Fin 64} (hactive : s.slots[i].active = true) :
    ∃ d, (s.tick efreg).slots[i] = ((s.setDraws d).slotUpdate i).1.slots[i] := by
  obtain ⟨before, after, hsplit⟩ := List.append_of_mem (List.mem_finRange i)
  have hnodup := List.nodup_finRange 64
  rw [hsplit, List.nodup_middle, List.nodup_cons, List.mem_append, not_or] at hnodup
  obtain ⟨⟨hbefore, hafter⟩, -⟩ := hnodup
  have hagree : s.agreeOn ((mixStart s).slotTurns before).state i := slotTurns_agreeOn (mixStart s) hbefore
  have hturns : (s.mix efreg).state = ((((mixStart s).slotTurns before).slotTurn i).slotTurns after).state := by
    rw [State.mix, Mix.foldl_returnTurn_state, hsplit, Mix.slotTurns, List.foldl_append, List.foldl_cons]
    rfl
  have hturn : (((mixStart s).slotTurns before).slotTurn i).state = (((mixStart s).slotTurns before).state.slotUpdate i).1 := by
    rw [Mix.slotTurn, if_pos (by rw [hagree.1]; exact hactive)]
  refine ⟨((mixStart s).slotTurns before).state.draws, ?_⟩
  rw [tick_slots, hturns, Mix.slotTurns_slot_notMem _ _ hafter, hturn]
  exact slotUpdate_slot_congr (s := s.setDraws _) hagree rfl

end Sys2Proof.Proofs
end

section
/-! The ADPCM walk of a fetch (R186, R187, R190): where it ends, and the predictors it passes. -/

namespace Sys2Proof.Proofs

open Sys2Proof Sys2Proof.Machine

/-- The running predictor of a decoder. -/
def predictorOf (ad : Adpcm) : Predictor := { sample := ad.sample, quant := ad.quant }

/-- The byte address of nibble 0 of the stream that a decoder stands in, with 2^32 added: `Slot.streamStart` of a slot that
has this decoder. -/
def streamOf (ad : Adpcm) : Nat := ad.base.toNat + 0x100000000 - ad.step.toNat / 2

theorem streamOf_eq_streamStart (x : Slot) : streamOf x.ad = x.streamStart := rfl

theorem streamInRam_mono {s : State} {start first m n : Nat} (hmn : m ≤ n) (h : s.streamInRam start first n) :
    s.streamInRam start first m := fun k hk => h k (by omega)

theorem decoded_succ (s : State) (start first count : Nat) (p : Predictor) :
    s.decoded start first (count + 1) p =
      adpcmStep s.params (s.decoded start first count p) (s.nibbleOf start (first + count)) := by
  simp only [State.decoded, List.range_succ, List.foldl_append, List.foldl_cons, List.foldl_nil]

/-- A nibble whose byte lies below `RAM_SIZE` is the stream's; addresses count modulo 2^23 (R62, R190). -/
theorem nibble_inRam {s : State} {base start n : Nat} (d : Nat) (hbase : base % 0x800000 = (start + n / 2) % 0x800000)
    (hram : s.inRam (start + n / 2)) : (s.nibble base n d).1 = s.nibbleOf start n := by
  have hram' : s.inRam base := by
    unfold State.inRam at *
    rwa [hbase]
  unfold State.nibble State.nibbleOf
  rw [State.memByte_inRam s d hram', hbase]
  have hbyte := (s.ramByte ((start + n / 2) % 0x800000)).isLt
  rcases Nat.mod_two_eq_zero_or_one n with hn | hn
  · simp [hn]
  · simp only [hn, one_ne_zero, if_false, pow_one]
    omega

/-- The walk goes on by one nibble at its end. -/
theorem adpcmWalk_succ (s : State) (i1 fuel : Nat) (w : AdpcmWalk) :
    s.adpcmWalk i1 (fuel + 1) w = s.adpcmWalkStep i1 (s.adpcmWalk i1 fuel w) := by
  induction fuel generalizing w with
  | zero => rfl
  | succ fuel ih => rw [State.adpcmWalk, ih, State.adpcmWalk]

/-! ### One nibble -/

theorem toNat_add_one (x : U32) : (x + 1).toNat = (x.toNat + 1) % 0x100000000 := BitVec.toNat_add x 1

theorem adpcmWalkStep_step (s : State) (i1 : Nat) {w : AdpcmWalk} (h : w.ad.step.toNat + 1 < 0x100000000) :
    (s.adpcmWalkStep i1 w).ad.step.toNat = w.ad.step.toNat + 1 := by
  rw [State.adpcmWalkStep, toNat_add_one]
  omega

/-- The byte address moves on where the nibble index becomes even: the decoder stays in its stream. -/
theorem adpcmWalkStep_stream (s : State) (i1 : Nat) {w : AdpcmWalk} (h : w.ad.step.toNat + 1 < 0x100000000) :
    streamOf (s.adpcmWalkStep i1 w).ad % 0x800000 = streamOf w.ad % 0x800000 := by
  have hstep := adpcmWalkStep_step s i1 h
  have hbase : (s.adpcmWalkStep i1 w).ad.base =
      if (s.adpcmWalkStep i1 w).ad.step.toNat % 2 = 0 then w.ad.base + 1 else w.ad.base := rfl
  unfold streamOf
  rw [hbase, hstep]
  split
  · rw [toNat_add_one]
    omega
  · omega

/-- A nibble below `RAM_SIZE` steps the predictor (R186, R191). -/
theorem adpcmWalkStep_predictor (s : State) (i1 : Nat) {w : AdpcmWalk} {start : Nat}
    (hstart : streamOf w.ad % 0x800000 = start % 0x800000) (hram : s.inRam (start + w.ad.step.toNat / 2)) :
    predictorOf (s.adpcmWalkStep i1 w).ad =
      adpcmStep s.params (predictorOf w.ad) (s.nibbleOf start w.ad.step.toNat) := by
  have hbase : w.ad.base.toNat % 0x800000 = (start + w.ad.step.toNat / 2) % 0x800000 := by
    unfold streamOf at hstart
    omega
  rw [← nibble_inRam w.draws hbase hram]
  rfl

/-! ### The whole walk -/

section
variable (s : State) (i1 : Nat) {fuel : Nat} {w : AdpcmWalk} (h : w.ad.step.toNat + fuel < 0x100000000)
include h

theorem adpcmWalk_step : (s.adpcmWalk i1 fuel w).ad.step.toNat = w.ad.step.toNat + fuel := by
  induction fuel with
  | zero => rfl
  | succ fuel ih =>
    have hih := ih (by omega)
    rw [adpcmWalk_succ, adpcmWalkStep_step s i1 (by omega), hih, Nat.add_assoc]

theorem adpcmWalk_stream : streamOf (s.adpcmWalk i1 fuel w).ad % 0x800000 = streamOf w.ad % 0x800000 := by
  induction fuel with
  | zero => rfl
  | succ fuel ih =>
    have hstep := adpcmWalk_step s i1 (fuel := fuel) (w := w) (by omega)
    rw [adpcmWalk_succ, adpcmWalkStep_stream s i1 (by omega), ih (by omega)]

/-- The byte address of the next nibble, modulo 2^23 (R186). -/
theorem adpcmWalk_base :
    (s.adpcmWalk i1 fuel w).ad.base.toNat % 0x800000 = (streamOf w.ad + (w.ad.step.toNat + fuel) / 2) % 0x800000 := by
  have hstream := adpcmWalk_stream s i1 h
  have hstep := adpcmWalk_step s i1 h
  rw [streamOf, hstep] at hstream
  omega

/-- The predictor after the walk, where its bytes lie below `RAM_SIZE`. -/
theorem adpcmWalk_predictor (hram : s.streamInRam (streamOf w.ad) w.ad.step.toNat fuel) :
    predictorOf (s.adpcmWalk i1 fuel w).ad = s.decoded (streamOf w.ad) w.ad.step.toNat fuel (predictorOf w.ad) := by
  induction fuel with
  | zero => rfl
  | succ fuel ih =>
    have hlt : w.ad.step.toNat + fuel < 0x100000000 := by omega
    have hstep := adpcmWalk_step s i1 hlt
    have hnibble : s.inRam (streamOf w.ad + (s.adpcmWalk i1 fuel w).ad.step.toNat / 2) := by
      rw [hstep]
      exact hram fuel (by omega)
    rw [adpcmWalk_succ, adpcmWalkStep_predictor s i1 (adpcmWalk_stream s i1 hlt) hnibble, hstep,
      ih hlt (streamInRam_mono (by omega) hram), decoded_succ]

/-- The walk notes the predictor at the current sample's index, if it passes that index (R186). -/
theorem adpcmWalk_cur :
    (s.adpcmWalk i1 fuel w).cur =
      if w.ad.step.toNat < i1 ∧ i1 ≤ w.ad.step.toNat + fuel then
        (s.adpcmWalk i1 (i1 - w.ad.step.toNat) w).ad.sample
      else w.cur := by
  induction fuel with
  | zero => rw [if_neg (by omega)]; rfl
  | succ fuel ih =>
    have hstep := adpcmWalk_step s i1 h
    have hnote : (s.adpcmWalk i1 (fuel + 1) w).cur =
        if (s.adpcmWalk i1 (fuel + 1) w).ad.step.toNat = i1 then (s.adpcmWalk i1 (fuel + 1) w).ad.sample
        else (s.adpcmWalk i1 fuel w).cur := by
      rw [adpcmWalk_succ]
      rfl
    rw [hnote, hstep]
    by_cases hi : w.ad.step.toNat + (fuel + 1) = i1
    · rw [if_pos hi, if_pos (by omega), show i1 - w.ad.step.toNat = fuel + 1 by omega]
    · rw [if_neg hi, ih (by omega)]
      simp only [show i1 ≤ w.ad.step.toNat + (fuel + 1) ↔ i1 ≤ w.ad.step.toNat + fuel by omega]

end

theorem adpcmWalk_loopCache (s : State) (i1 fuel : Nat) (w : AdpcmWalk) :
    (s.adpcmWalk i1 fuel w).ad.lpSample = w.ad.lpSample ∧ (s.adpcmWalk i1 fuel w).ad.lpQuant = w.ad.lpQuant := by
  induction fuel with
  | zero => exact ⟨rfl, rfl⟩
  | succ fuel ih => rw [adpcmWalk_succ]; exact ih

/-! ### The fetch -/

/-- How many nibbles a slot's fetch decodes (R186). -/
def fetchCount (x : Slot) : Nat := x.nxtAddr.toNat / 4096 - x.ad.step.toNat

/-- A slot's walk before its first nibble. -/
def walkStart (x : Slot) (d : Nat) : AdpcmWalk := { ad := x.ad, cur := x.ad.sample, draws := d }

theorem fetchCount_bound (x : Slot) : x.ad.step.toNat + fetchCount x < 0x100000000 := by
  unfold fetchCount
  omega

theorem fetchAdpcm_uninit (s : State) {x : Slot} (d : Nat) (hq : x.ad.quant = 0) :
    s.fetchAdpcm x d = { cur := 0, nxt := 0, ad := x.ad, draws := d } := if_pos hq

theorem fetchAdpcm_walk (s : State) {x : Slot} (d : Nat) (hq : x.ad.quant ≠ 0) :
    s.fetchAdpcm x d =
      let w := s.adpcmWalk (x.curAddr.toNat / 4096) (fetchCount x) (walkStart x d)
      { cur := w.cur, nxt := w.ad.sample, ad := w.ad, draws := w.draws } := if_neg hq

theorem fetchAdpcm_loopCache (s : State) (x : Slot) (d : Nat) :
    (s.fetchAdpcm x d).ad.lpSample = x.ad.lpSample ∧ (s.fetchAdpcm x d).ad.lpQuant = x.ad.lpQuant := by
  by_cases hq : x.ad.quant = 0
  · rw [fetchAdpcm_uninit s d hq]
    exact ⟨rfl, rfl⟩
  · rw [fetchAdpcm_walk s d hq]
    exact adpcmWalk_loopCache s _ _ (walkStart x d)

/-- Where the decoder stands after a fetch (R186). -/
theorem fetchAdpcm_position (s : State) {x : Slot} (d : Nat) (hq : x.ad.quant ≠ 0) :
    (s.fetchAdpcm x d).ad.step.toNat = x.ad.step.toNat + fetchCount x ∧
      (s.fetchAdpcm x d).ad.base.toNat % 0x800000 =
        (x.streamStart + (x.ad.step.toNat + fetchCount x) / 2) % 0x800000 := by
  rw [fetchAdpcm_walk s d hq, ← streamOf_eq_streamStart]
  exact ⟨adpcmWalk_step s _ (w := walkStart x d) (fetchCount_bound x),
    adpcmWalk_base s _ (w := walkStart x d) (fetchCount_bound x)⟩

/-- The predictor after a fetch, where its bytes lie below `RAM_SIZE`. -/
theorem fetchAdpcm_predictor (s : State) {x : Slot} (d : Nat) (hq : x.ad.quant ≠ 0)
    (hram : s.streamInRam x.streamStart x.ad.step.toNat (fetchCount x)) :
    predictorOf (s.fetchAdpcm x d).ad = s.decoded x.streamStart x.ad.step.toNat (fetchCount x) (predictorOf x.ad) := by
  rw [← streamOf_eq_streamStart] at hram ⊢
  rw [fetchAdpcm_walk s d hq]
  exact adpcmWalk_predictor s _ (w := walkStart x d) (fetchCount_bound x) hram

/-- The ADPCM sample of index `k`: the predictor after as many nibbles, 0 from a decoder never initialised (R186, R187). -/
def adpcmSample (s : State) (x : Slot) (k : Nat) : Int :=
  if x.ad.quant = 0 then 0
  else (s.decoded x.streamStart x.ad.step.toNat (k - x.ad.step.toNat) (predictorOf x.ad)).sample

/-- The bytes of the ADPCM samples up to index `k` lie below `RAM_SIZE`. -/
def AdpcmInRam (s : State) (x : Slot) (k : Nat) : Prop :=
  x.ad.quant ≠ 0 → s.streamInRam x.streamStart x.ad.step.toNat (k - x.ad.step.toNat)

/-- The predictor before the walk is the sample of every index up to the cursor. -/
theorem adpcmSample_of_le {s : State} {x : Slot} {k : Nat} (hq : x.ad.quant ≠ 0) (hk : k ≤ x.ad.step.toNat) :
    adpcmSample s x k = x.ad.sample := by
  rw [adpcmSample, if_neg hq, Nat.sub_eq_zero_of_le hk]
  rfl

theorem fetchAdpcm_nxt (s : State) {x : Slot} (d : Nat) (hram : AdpcmInRam s x (x.nxtAddr.toNat / 4096)) :
    (s.fetchAdpcm x d).nxt = adpcmSample s x (x.nxtAddr.toNat / 4096) := by
  unfold adpcmSample
  split
  · rw [fetchAdpcm_uninit s d ‹_›]
  · rename_i hq
    have hnxt : (s.fetchAdpcm x d).nxt = (predictorOf (s.fetchAdpcm x d).ad).sample := by
      rw [fetchAdpcm_walk s d hq]
      rfl
    rw [hnxt, fetchAdpcm_predictor s d hq (hram hq)]
    rfl

theorem fetchAdpcm_cur_eq (s : State) {x : Slot} (d : Nat) (hq : x.ad.quant ≠ 0) :
    (s.fetchAdpcm x d).cur =
      if x.ad.step.toNat < x.curAddr.toNat / 4096 ∧ x.curAddr.toNat / 4096 ≤ x.ad.step.toNat + fetchCount x then
        (s.adpcmWalk (x.curAddr.toNat / 4096) (x.curAddr.toNat / 4096 - x.ad.step.toNat) (walkStart x d)).ad.sample
      else x.ad.sample := by
  rw [fetchAdpcm_walk s d hq]
  exact adpcmWalk_cur s _ (w := walkStart x d) (fetchCount_bound x)

/-- The current sample, where its index is not past the next one. -/
theorem fetchAdpcm_cur (s : State) {x : Slot} (d : Nat) (hle : x.curAddr.toNat / 4096 ≤ x.nxtAddr.toNat / 4096)
    (hram : AdpcmInRam s x (x.curAddr.toNat / 4096)) :
    (s.fetchAdpcm x d).cur = adpcmSample s x (x.curAddr.toNat / 4096) := by
  by_cases hq : x.ad.quant = 0
  · rw [fetchAdpcm_uninit s d hq, adpcmSample, if_pos hq]
  · rw [fetchAdpcm_cur_eq s d hq]
    by_cases hfirst : x.ad.step.toNat < x.curAddr.toNat / 4096
    · have hbound : (walkStart x d).ad.step.toNat + (x.curAddr.toNat / 4096 - x.ad.step.toNat) < 0x100000000 := by
        show x.ad.step.toNat + (x.curAddr.toNat / 4096 - x.ad.step.toNat) < 0x100000000
        omega
      rw [if_pos ⟨hfirst, by unfold fetchCount; omega⟩, adpcmSample, if_neg hq]
      exact congrArg Predictor.sample (adpcmWalk_predictor s _ hbound (hram hq))
    · rw [if_neg fun h => hfirst h.1, adpcmSample_of_le hq (by omega)]

/-- The current sample, where its index lies past the next one: the walk does not come to it. -/
theorem fetchAdpcm_cur_past (s : State) {x : Slot} (d : Nat) (hlt : x.nxtAddr.toNat / 4096 < x.curAddr.toNat / 4096) :
    (s.fetchAdpcm x d).cur = adpcmSample s x x.ad.step.toNat := by
  by_cases hq : x.ad.quant = 0
  · rw [fetchAdpcm_uninit s d hq, adpcmSample, if_pos hq]
  · rw [fetchAdpcm_cur_eq s d hq, adpcmSample_of_le hq le_rfl, if_neg]
    unfold fetchCount
    omega

end Sys2Proof.Proofs
end

section
/-! What a slot's run makes of its decoder, its envelope and its sample (R182), under the gains of its LFOs. -/

namespace Sys2Proof.Proofs

open Sys2Proof Sys2Proof.Machine

/-! ### The fetch by format -/

theorem fetch_pcm16 {s : State} {i : Fin 64} (x : Slot) (d : Nat) (h : s.pcms i = 0) :
    s.fetch i x d = s.fetchPcm16 i x d := by
  simp only [State.fetch, h]

theorem fetch_pcm8 {s : State} {i : Fin 64} (x : Slot) (d : Nat) (h : s.pcms i = 1) :
    s.fetch i x d = s.fetchPcm8 i x d := by
  simp only [State.fetch, h]

theorem fetch_adpcm {s : State} {i : Fin 64} (x : Slot) (d : Nat) (h : 2 ≤ s.pcms i) :
    s.fetch i x d = s.fetchAdpcm x d := by
  unfold State.fetch
  split
  · omega
  · omega
  · rfl

/-- A PCM fetch leaves the decoder as it is (R183). -/
theorem fetch_ad_pcm {s : State} {i : Fin 64} (x : Slot) (d : Nat) (h : s.pcms i < 2) : (s.fetch i x d).ad = x.ad := by
  have hcases : s.pcms i = 0 ∨ s.pcms i = 1 := by omega
  rcases hcases with h0 | h1
  · rw [fetch_pcm16 x d h0]; rfl
  · rw [fetch_pcm8 x d h1]; rfl

/-- The index of an address is below 2^20, so that the mask of R183 takes nothing away. -/
theorem pcm16Offset_eq (c : U32) : pcm16Offset c = 2 * (c.toNat / 4096) := by
  unfold pcm16Offset
  omega

theorem memWord_sample16 {s : State} {a : Nat} (d : Nat) (h : s.inRam a) (h' : s.inRam (a + 1)) :
    (s.memWord a d).1.toInt = s.sample16 a := by
  rw [State.memWord_inRam s d h h', State.sample16]

theorem memByte_sample8 {s : State} {a : Nat} (d : Nat) (h : s.inRam a) : (s.memByte a d).1.toInt * 256 = s.sample8 a := by
  rw [State.memByte_inRam s d h, State.sample8]

/-- The sample of index `k` of slot `i`, by its format (R183 to R187). -/
def sampleAt (s : State) (i : Fin 64) (k : Nat) : Int :=
  if s.pcms i = 0 then s.sample16 (s.sa i + 2 * k)
  else if s.pcms i = 1 then s.sample8 (s.sa i + k)
  else adpcmSample s s.slots[i] k

theorem sampleInRam_adpcm {s : State} {i : Fin 64} {k : Nat} (h : 2 ≤ s.pcms i) (hram : s.sampleInRam i k) :
    AdpcmInRam s s.slots[i] k := by
  rwa [State.sampleInRam, if_neg (by omega), if_neg (by omega)] at hram

theorem sampleAt_adpcm {s : State} {i : Fin 64} (k : Nat) (h : 2 ≤ s.pcms i) :
    sampleAt s i k = adpcmSample s s.slots[i] k := by
  rw [sampleAt, if_neg (by omega), if_neg (by omega)]

/-- The current sample of a fetch, but for an ADPCM slot whose current index lies past the next one. -/
theorem fetch_cur {s : State} {i : Fin 64} (d : Nat)
    (horder : 2 ≤ s.pcms i → s.slots[i].curAddr.toNat / 4096 ≤ s.slots[i].nxtAddr.toNat / 4096)
    (hram : s.sampleInRam i (s.slots[i].curAddr.toNat / 4096)) :
    (s.fetch i s.slots[i] d).cur = sampleAt s i (s.slots[i].curAddr.toNat / 4096) := by
  by_cases h0 : s.pcms i = 0
  · rw [State.sampleInRam, if_pos h0] at hram
    rw [fetch_pcm16 _ d h0, sampleAt, if_pos h0, State.fetchPcm16, pcm16Offset_eq]
    exact memWord_sample16 d hram.1 hram.2
  · by_cases h1 : s.pcms i = 1
    · rw [State.sampleInRam, if_neg h0, if_pos h1] at hram
      rw [fetch_pcm8 _ d h1, sampleAt, if_neg h0, if_pos h1]
      exact memByte_sample8 d hram
    · have h2 : 2 ≤ s.pcms i := by omega
      rw [fetch_adpcm _ d h2, sampleAt_adpcm _ h2]
      exact fetchAdpcm_cur s d (horder h2) (sampleInRam_adpcm h2 hram)

theorem fetch_nxt {s : State} {i : Fin 64} (d : Nat) (hram : s.sampleInRam i (s.slots[i].nxtAddr.toNat / 4096)) :
    (s.fetch i s.slots[i] d).nxt = sampleAt s i (s.slots[i].nxtAddr.toNat / 4096) := by
  by_cases h0 : s.pcms i = 0
  · rw [State.sampleInRam, if_pos h0] at hram
    rw [fetch_pcm16 _ d h0, sampleAt, if_pos h0, State.fetchPcm16, pcm16Offset_eq s.slots[i].nxtAddr]
    exact memWord_sample16 _ hram.1 hram.2
  · by_cases h1 : s.pcms i = 1
    · rw [State.sampleInRam, if_neg h0, if_pos h1] at hram
      rw [fetch_pcm8 _ d h1, sampleAt, if_neg h0, if_pos h1]
      exact memByte_sample8 _ hram
    · have h2 : 2 ≤ s.pcms i := by omega
      rw [fetch_adpcm _ d h2, sampleAt_adpcm _ h2]
      exact fetchAdpcm_nxt s d (sampleInRam_adpcm h2 hram)

/-! ### Advance and loop control -/

/-- The envelope after the advance with gain `g`: an ATTACK whose address comes to LSA goes to DECAY1 with LPSLNK (R156). -/
def linkedEg (s : State) (i : Fin 64) (x : Slot) (g : Nat) : Eg :=
  { x.eg with
    state :=
      if s.lsa i ≤ (x.advanced g).toNat / 4096 ∧ s.lpslnk i = true ∧ x.eg.state = .attack then .decay1 else x.eg.state }

/-- An ADPCM decoder after a loop wrap: at nibble LSA, with the cached predictor for PCMS = 2 (R196, R197). -/
def wrappedDecoder (s : State) (i : Fin 64) (ad : Adpcm) : Adpcm :=
  { ad with
    base := BitVec.ofNat 32 (s.sa i + s.lsa i / 2)
    step := BitVec.ofNat 32 (s.lsa i)
    sample := if s.pcms i = 2 then ad.lpSample else ad.sample
    quant := if s.pcms i = 2 then ad.lpQuant else ad.quant }

theorem wrap_ad (s : State) (i : Fin 64) (x : Slot) :
    (s.wrap i x).ad = if s.pcms i < 2 then x.ad else wrappedDecoder s i x.ad := by
  unfold State.wrap wrappedDecoder
  dsimp only
  split
  · rw [if_pos (by omega)]
  · rw [if_pos (by omega)]
  · rename_i h
    simp [h]
  · rename_i h0 h1 h2
    have hpcms : ¬s.pcms i < 2 := fun hlt => (Nat.le_one_iff_eq_zero_or_eq_one.mp (Nat.lt_succ_iff.mp hlt)).elim h0 h1
    rw [if_neg hpcms, if_neg h2, if_neg h2]

/-- Loop control wraps a looping slot whose next index has come to LEA (R196). -/
theorem loopControl_slot (s : State) (i : Fin 64) (x : Slot) :
    (s.loopControl i x).1 = if s.lpctl i = true ∧ s.lea i ≤ x.nxtAddr.toNat / 4096 then s.wrap i x else x := by
  unfold State.loopControl indexOf
  dsimp only
  by_cases h : s.lpctl i = true
  · simp only [h, if_true, true_and]
  · simp [h]

theorem loopControl_eg (s : State) (i : Fin 64) (x : Slot) : (s.loopControl i x).1.eg = x.eg := by
  rw [loopControl_slot]
  split <;> rfl

theorem loopControl_alfo (s : State) (i : Fin 64) (x : Slot) : (s.loopControl i x).1.alfo = x.alfo := by
  rw [loopControl_slot]
  split <;> rfl

/-- Slot `i` wraps in a TICK whose pitch LFO has gain `g` (R196). -/
def Wraps (s : State) (i : Fin 64) (g : Nat) : Prop := s.lpctl i = true ∧ s.lea i ≤ s.slots[i].nextIndex g

/-! ### The run -/

/-- What a slot's run gives with the gains `g` and `h` of its LFOs and with its samples fetched from draw counter `d`: the
decoder, wrapped or not; the envelope's update after the loop link; and the sample, interpolated and scaled by both. -/
structure RunsWith (s : State) (i : Fin 64) (g h d : Nat) (r : SlotRun) : Prop where
  adWraps : 2 ≤ s.pcms i → Wraps s i g → r.slot.ad = wrappedDecoder s i (s.fetch i s.slots[i] d).ad
  adStays : s.pcms i < 2 ∨ ¬Wraps s i g → r.slot.ad = (s.fetch i s.slots[i] d).ad
  eg : r.slot.eg = (egUpdate s.params (s.lpslnk i) (s.d2r i) (linkedEg s i s.slots[i] g)).eg
  out : r.out =
    egGain s.params (linkedEg s i s.slots[i] g).state
      (egUpdate s.params (s.lpslnk i) (s.d2r i) (linkedEg s i s.slots[i] g)).level
      (interpolate s.slots[i].curAddr (s.fetch i s.slots[i] d).cur (s.fetch i s.slots[i] d).nxt * h / 4096)

theorem loopControl_adWraps {s : State} {i : Fin 64} {x : Slot} (hpcms : 2 ≤ s.pcms i)
    (h : s.lpctl i = true ∧ s.lea i ≤ x.nxtAddr.toNat / 4096) : (s.loopControl i x).1.ad = wrappedDecoder s i x.ad := by
  rw [loopControl_slot, if_pos h, wrap_ad, if_neg (by omega)]

theorem loopControl_adStays {s : State} {i : Fin 64} {x : Slot}
    (h : s.pcms i < 2 ∨ ¬(s.lpctl i = true ∧ s.lea i ≤ x.nxtAddr.toNat / 4096)) : (s.loopControl i x).1.ad = x.ad := by
  rw [loopControl_slot]
  split
  · rw [wrap_ad, if_pos (h.resolve_right (not_not_intro ‹_›))]
  · rfl

/-- The samples that a slot's run fetches: steps (1) and (2) of R182. -/
def runFetch (s : State) (i : Fin 64) : Fetch := s.fetch i s.slots[i] (s.pitchUse i s.slots[i] s.draws).draws

/-- The interpolated sample of a slot's run: step (3) of R182. -/
def runSample (s : State) (i : Fin 64) : Int := interpolate s.slots[i].curAddr (runFetch s i).cur (runFetch s i).nxt

/-- The slot after its run's advance: step (4) of R182. -/
def runMoved (s : State) (i : Fin 64) : Slot :=
  s.advance i { s.slots[i] with plfo := (s.pitchUse i s.slots[i] s.draws).plfo, ad := (runFetch s i).ad }
    (s.pitchUse i s.slots[i] s.draws).stepEff

theorem slotRun_ad (s : State) (i : Fin 64) :
    (s.slotRun i s.slots[i]).slot.ad = (s.loopControl i (runMoved s i)).1.ad := rfl

theorem slotRun_eg (s : State) (i : Fin 64) :
    (s.slotRun i s.slots[i]).slot.eg = (egUpdate s.params (s.lpslnk i) (s.d2r i) (runMoved s i).eg).eg := by
  rw [← loopControl_eg s i (runMoved s i)]
  rfl

theorem slotRun_out (s : State) (i : Fin 64) :
    (s.slotRun i s.slots[i]).out =
      egGain s.params (runMoved s i).eg.state (egUpdate s.params (s.lpslnk i) (s.d2r i) (runMoved s i).eg).level
        (s.ampUse i s.slots[i].alfo (runSample s i) (runFetch s i).draws).x := by
  rw [show s.slots[i].alfo = (runMoved s i).alfo from rfl, ← loopControl_eg s i (runMoved s i), ← loopControl_alfo s i]
  rfl

/-- Every run of a slot goes by one gain of each LFO (R182, R227, R228). -/
theorem slotRun_runsWith (s : State) (i : Fin 64) :
    ∃ g h d, s.pitchGainIs i g ∧ s.ampGainIs i h ∧ RunsWith s i g h d (s.slotRun i s.slots[i]) := by
  obtain ⟨⟨g, hg, hstep⟩, -⟩ := s.pitchUse_cases i s.draws
  obtain ⟨⟨h, hh, hscaled⟩, -⟩ := s.ampUse_cases i (runSample s i) (runFetch s i).draws
  have hnxt : (runMoved s i).nxtAddr = s.slots[i].advanced g + 0x1000 := by
    rw [runMoved, hstep]
    rfl
  have heg : (runMoved s i).eg = linkedEg s i s.slots[i] g := by
    rw [runMoved, hstep]
    rfl
  have hwraps : Wraps s i g ↔ s.lpctl i = true ∧ s.lea i ≤ (runMoved s i).nxtAddr.toNat / 4096 := by
    rw [hnxt]
    rfl
  refine ⟨g, h, (s.pitchUse i s.slots[i] s.draws).draws, hg, hh, ?_, ?_, ?_, ?_⟩
  · intro hpcms hw
    rw [slotRun_ad, loopControl_adWraps hpcms (hwraps.mp hw)]
    rfl
  · intro hstays
    rw [hwraps] at hstays
    rw [slotRun_ad, loopControl_adStays hstays]
    rfl
  · rw [slotRun_eg, heg]
  · rw [slotRun_out, heg, hscaled]
    rfl

/-- A slot's update, unless it is frozen, is such a run; a stop touches neither decoder nor envelope (R181, R182, R160). -/
theorem slotUpdate_runsWith {s : State} {i : Fin 64} (hssctl : s.ssctl i = false) :
    ∃ g h d r, s.pitchGainIs i g ∧ s.ampGainIs i h ∧ RunsWith s i g h d r ∧ (s.slotUpdate i).2 = r.out ∧
      (s.slotUpdate i).1.slots[i].ad = r.slot.ad ∧ (s.slotUpdate i).1.slots[i].eg = r.slot.eg := by
  obtain ⟨g, h, d, hg, hh, hr⟩ := slotRun_runsWith s i
  refine ⟨g, h, d, _, hg, hh, hr, ?_⟩
  rw [State.slotUpdate, if_neg (by simp [hssctl])]
  dsimp only
  rw [State.commitRun_slot]
  split <;> exact ⟨rfl, rfl, rfl⟩

end Sys2Proof.Proofs
end

section
/-! A slot's decoder after a TICK (R186, R187, R196, R197). -/

namespace Sys2Proof.Proofs

open Sys2Proof Sys2Proof.Machine

theorem agreeOn_setDraws (s : State) (i : Fin 64) (d : Nat) : s.agreeOn (s.setDraws d) i := agreeOn_refl s i

theorem runs_iff (s : State) (i : Fin 64) : s.runs i = true ↔ s.slots[i].active = true ∧ s.ssctl i = false := by
  simp [State.runs]

/-- A TICK leaves an advanced slot the decoder of its fetch, wrapped where the slot wraps. -/
theorem tick_ad {s : State} {i : Fin 64} (efreg : List Word) (hruns : s.runs i = true) :
    ∃ g d, s.pitchGainIs i g ∧
      (2 ≤ s.pcms i → Wraps s i g → (s.tick efreg).slots[i].ad = wrappedDecoder s i (s.fetch i s.slots[i] d).ad) ∧
      (s.pcms i < 2 ∨ ¬Wraps s i g → (s.tick efreg).slots[i].ad = (s.fetch i s.slots[i] d).ad) := by
  obtain ⟨hactive, hssctl⟩ := (runs_iff s i).mp hruns
  obtain ⟨n, hslot⟩ := tick_slot s efreg hactive
  obtain ⟨g, _, d, r, hg, -, hr, -, had, -⟩ := slotUpdate_runsWith (s := s.setDraws n) hssctl
  have hfetch : (s.setDraws n).fetch i s.slots[i] d = s.fetch i s.slots[i] d := fetch_congr (agreeOn_setDraws s i n) _ d
  refine ⟨g, d, hg, ?_⟩
  rw [hslot, had, ← hfetch]
  exact ⟨hr.adWraps, hr.adStays⟩

/-! ### The wrapped decoder -/

theorem wrappedDecoder_step (s : State) (i : Fin 64) (ad : Adpcm) : (wrappedDecoder s i ad).step.toNat = s.lsa i := by
  have hlsa := (s.sr i 0x08).isLt
  rw [wrappedDecoder, BitVec.toNat_ofNat, State.lsa]
  omega

theorem wrappedDecoder_base (s : State) (i : Fin 64) (ad : Adpcm) :
    (wrappedDecoder s i ad).base.toNat = s.sa i + s.lsa i / 2 := by
  have hlsa := (s.sr i 0x08).isLt
  have hsa := (s.sr i 0x04).isLt
  have hhigh : bits (s.sr i 0x00) 6 0 < 128 := Nat.mod_lt _ (by decide)
  rw [wrappedDecoder, BitVec.toNat_ofNat, State.sa, State.lsa]
  omega

/-- With PCMS = 2 the decoder takes up the cached predictor. -/
theorem wrappedDecoder_cached {s : State} {i : Fin 64} (ad : Adpcm) (h : s.pcms i = 2) :
    (wrappedDecoder s i ad).sample = ad.lpSample ∧ (wrappedDecoder s i ad).quant = ad.lpQuant :=
  ⟨if_pos h, if_pos h⟩

/-- With PCMS = 3 the running predictor goes on. -/
theorem wrappedDecoder_running {s : State} {i : Fin 64} (ad : Adpcm) (h : s.pcms i = 3) :
    (wrappedDecoder s i ad).sample = ad.sample ∧ (wrappedDecoder s i ad).quant = ad.quant := by
  have h2 : s.pcms i ≠ 2 := by omega
  exact ⟨if_neg h2, if_neg h2⟩

/-! ### The statement -/

/-- The fetched predictor of an ADPCM slot, field by field. -/
theorem fetchAdpcm_fields {s : State} {i : Fin 64} (d : Nat) (hpcms : 2 ≤ s.pcms i) (hq : s.slots[i].ad.quant ≠ 0)
    (hram : s.sampleInRam i (s.slots[i].nxtAddr.toNat / 4096)) :
    let p := s.decoded s.slots[i].streamStart s.slots[i].ad.step.toNat (fetchCount s.slots[i]) (predictorOf s.slots[i].ad)
    (s.fetchAdpcm s.slots[i] d).ad.sample = p.sample ∧ (s.fetchAdpcm s.slots[i] d).ad.quant = p.quant := by
  have hp := fetchAdpcm_predictor s d hq (sampleInRam_adpcm hpcms hram hq)
  exact ⟨congrArg Predictor.sample hp, congrArg Predictor.quant hp⟩

/-- Settles O40: the decoder of the fetch's walk, at LSA after a wrap. -/
theorem adpcmTick : Obligations.AdpcmTick := by
  intro e s t j _ hexec hruns
  obtain rfl : s.tick e = t := Host.Outcome.next.inj hexec
  obtain ⟨g, d, hg, hwrap, hstay⟩ := tick_ad e hruns
  refine ⟨fun hpcm => (hstay (.inl hpcm)).trans (fetch_ad_pcm _ d hpcm), fun hpcms => ⟨g, hg, ?_⟩⟩
  rw [fetch_adpcm _ d hpcms] at hwrap hstay
  generalize (s.tick e).slots[j].ad = y at hwrap hstay ⊢
  obtain ⟨hlpSample, hlpQuant⟩ := fetchAdpcm_loopCache s s.slots[j] d
  by_cases hw : Wraps s j g
  · obtain rfl := hwrap hpcms hw
    refine ⟨hlpSample, hlpQuant, fun hn => absurd hw hn, fun hn => absurd hw hn, fun _ => ?_⟩
    refine ⟨wrappedDecoder_step s j _, wrappedDecoder_base s j _, fun h2 => ?_, fun h3 hq hram => ?_, fun h3 hq => ?_⟩
    · obtain ⟨hsample, hquant⟩ := wrappedDecoder_cached (s.fetchAdpcm s.slots[j] d).ad h2
      exact ⟨hsample.trans hlpSample, hquant.trans hlpQuant⟩
    · obtain ⟨hsample, hquant⟩ := wrappedDecoder_running (s.fetchAdpcm s.slots[j] d).ad h3
      obtain ⟨hsample', hquant'⟩ := fetchAdpcm_fields d hpcms hq hram
      exact ⟨hsample.trans hsample', hquant.trans hquant'⟩
    · rw [fetchAdpcm_uninit s d hq]
      obtain ⟨hsample, hquant⟩ := wrappedDecoder_running s.slots[j].ad h3
      exact ⟨hsample, hquant.trans hq⟩
  · obtain rfl := hstay (.inr hw)
    refine ⟨hlpSample, hlpQuant, fun _ hq => ?_, fun _ hq => ?_, fun h => absurd h hw⟩
    · rw [fetchAdpcm_uninit s d hq]
    · obtain ⟨hstep, hbase⟩ := fetchAdpcm_position s d hq
      exact ⟨hstep, hbase, fetchAdpcm_fields d hpcms hq⟩

end Sys2Proof.Proofs
end

section
/-! A slot's sample: the envelope's gain on the interpolated and scaled samples (R161, R188, R202). -/

namespace Sys2Proof.Proofs

open Sys2Proof Sys2Proof.Machine

/-! ### The envelope's gain -/

/-- The level an update returns: full with EGHOLD in ATTACK, else the volume's (R155, R157 to R159). -/
theorem egUpdate_level (p : Params) (lpslnk : Bool) (liveD2r : Nat) (e : Eg) :
    (egUpdate p lpslnk liveD2r e).level =
      if e.state = .attack ∧ e.hold = true then 4092 else 4 * ((egUpdate p lpslnk liveD2r e).eg.volume / 2 ^ p.egFrac.bits) := by
  have hlevel (v : Int) : outLevel p v = 4 * (v / 2 ^ p.egFrac.bits) := Int.mul_comm _ _
  unfold egUpdate
  cases hstate : e.state with
  | attack =>
    simp only [egAttack, true_and, hlevel]
    rfl
  | decay1 => simp only [egDecay1, hlevel, reduceCtorEq, false_and, if_false]
  | decay2 => simp only [egDecay2, hlevel, reduceCtorEq, false_and, if_false]
  | release => simp only [egRelease, hlevel, reduceCtorEq, false_and, if_false]

theorem egGain_attack (p : Params) (level x : Int) : egGain p .attack level x = x * level / 4096 := rfl

theorem egGain_table (p : Params) {pre : EgState} (level x : Int) (h : pre ≠ .attack) :
    egGain p pre level x = x * p.egEntry (level / 4).toNat / 4096 := by
  cases pre with
  | attack => exact absurd rfl h
  | decay1 => rfl
  | decay2 => rfl
  | release => rfl

/-- From ATTACK the gain is linear in the level; EGHOLD takes the full one. -/
theorem egGain_egUpdate_attack (p : Params) (lpslnk : Bool) (liveD2r : Nat) {e : Eg} (x : Int) (h : e.state = .attack) :
    egGain p e.state (egUpdate p lpslnk liveD2r e).level x =
      x * (if e.hold = true then 4092 else 4 * ((egUpdate p lpslnk liveD2r e).eg.volume / 2 ^ p.egFrac.bits)) / 4096 := by
  rw [egUpdate_level, h, egGain_attack]
  simp only [true_and]

/-- From the other states the gain is EG_TABLE's at the level. -/
theorem egGain_egUpdate_table (p : Params) (lpslnk : Bool) (liveD2r : Nat) {e : Eg} (x : Int) (h : e.state ≠ .attack) :
    egGain p e.state (egUpdate p lpslnk liveD2r e).level x =
      x * p.egEntry ((egUpdate p lpslnk liveD2r e).eg.volume / 2 ^ p.egFrac.bits).toNat / 4096 := by
  rw [egGain_table p _ x h, egUpdate_level, if_neg fun hh => h hh.1, Int.mul_ediv_cancel_left _ (by decide)]

/-! ### The loop link -/

/-- The loop link ends an ATTACK in this TICK, with gain `g` of the pitch LFO (R156). -/
def Linked (s : State) (i : Fin 64) (g : Nat) : Prop :=
  s.lpslnk i = true ∧ s.lsa i ≤ (s.slots[i].advanced g).toNat / 4096

theorem linkedEg_attack {s : State} {i : Fin 64} {g : Nat} :
    (linkedEg s i s.slots[i] g).state = .attack ↔ s.slots[i].eg.state = .attack ∧ ¬Linked s i g := by
  unfold linkedEg Linked
  dsimp only
  split
  · rename_i h
    obtain ⟨hlsa, hlpslnk, -⟩ := h
    exact ⟨fun hdecay => absurd hdecay (by decide), fun hattack => absurd ⟨hlpslnk, hlsa⟩ hattack.2⟩
  · rename_i h
    refine ⟨fun hattack => ⟨hattack, fun hl => h ⟨hl.2, hl.1, hattack⟩⟩, And.left⟩

/-! ### The statement -/

/-- R188, with the shift as the floor of a division. -/
theorem interpolate_eq (c : U32) (cur nxt : Int) :
    interpolate c cur nxt = (cur * (4096 - (c.toNat % 4096 : Nat)) + nxt * (c.toNat % 4096 : Nat)) / 4096 := rfl

/-- A frozen slot gives 0 and changes nothing (R181). -/
theorem slotUpdate_frozen {s : State} {i : Fin 64} (h : s.ssctl i = true) : s.slotUpdate i = (s, 0) := if_pos h

/-- The current sample of an ADPCM slot whose current index lies past the next one. -/
theorem fetch_cur_past {s : State} {i : Fin 64} (d : Nat) (hpcms : 2 ≤ s.pcms i)
    (hlt : s.slots[i].nxtAddr.toNat / 4096 < s.slots[i].curAddr.toNat / 4096) :
    (s.fetch i s.slots[i] d).cur = adpcmSample s s.slots[i] s.slots[i].ad.step.toNat := by
  rw [fetch_adpcm _ d hpcms, fetchAdpcm_cur_past s d hlt]

/-- Settles O41: the samples of the fetch, and the envelope's gain by the state after the loop link. -/
theorem slotOutput : Obligations.SlotOutput := by
  intro s j
  refine ⟨slotUpdate_frozen, fun hssctl => ?_⟩
  obtain ⟨g, h, d, r, hg, hh, hr, hout, -, heg⟩ := slotUpdate_runsWith hssctl
  rw [hr.eg] at heg
  rw [hr.out, interpolate_eq] at hout
  refine ⟨g, h, (s.fetch j s.slots[j] d).cur, (s.fetch j s.slots[j] d).nxt, hg, hh, ?_, fetch_nxt d, ?_, ?_⟩
  · split
    · rename_i hpast
      exact fetch_cur_past d hpast.1 hpast.2
    · rename_i hpast
      exact fetch_cur d fun hpcms => by omega
  · intro hattack hlink
    rw [hout, heg]
    exact egGain_egUpdate_attack _ _ _ _ (linkedEg_attack.mpr ⟨hattack, hlink⟩)
  · intro hother
    rw [hout, heg]
    refine egGain_egUpdate_table _ _ _ _ fun h => ?_
    obtain ⟨hattack, hlink⟩ := linkedEg_attack.mp h
    exact hother.elim (absurd hattack) hlink

end Sys2Proof.Proofs
end

section
/-! Transactions: the key and the operand words (R80, R81). -/

namespace Sys2Proof.Proofs

open Sys2Proof Sys2Proof.Laws

/-! ### The key -/

/-- A key is its op code and its low half (R81). -/
theorem mkKey_parts (k : BitVec 20) : mkKey (k.extractLsb' 16 4) (k.extractLsb' 0 16) = k :=
  (BitVec.extractLsb'_append_extractLsb'_eq_extractLsb' rfl).trans BitVec.extractLsb'_eq_self

theorem decode_mkKey (op : BitVec 4) (a : Word) (data : List Word) : decode ⟨mkKey op a, data⟩ = decodeOp op a data := by
  rw [decode, mkKey_op, mkKey_low]

/-! ### The operand words -/

/-- The decoder takes exactly the operand words where nothing follows them. -/
theorem takeOperands_self {n : Nat} {d : List Word} (h : d.length = n) : takeOperands n d = .ok d := by
  subst h
  simp [takeOperands]

/-- What the decoder takes: `n` words, with zero words after them (assumption log 2). -/
theorem takeOperands_ok {n : Nat} {data d : List Word} (h : takeOperands n data = .ok d) :
    d.length = n ∧ ∃ zeros : List Word, (∀ z ∈ zeros, z = 0) ∧ data = d ++ zeros := by
  unfold takeOperands at h
  split at h
  · cases h
  split at h
  · rename_i hlen hzero
    cases h
    refine ⟨by rw [List.length_take]; omega, data.drop n, fun z hz => ?_, (List.take_append_drop n data).symm⟩
    exact eq_of_beq (List.all_eq_true.mp hzero z hz)
  · cases h

/-- The four words of a 64-bit pattern put together again. -/
theorem append_quadWords (b : BitVec 64) :
    b.extractLsb' 48 16 ++ (b.extractLsb' 32 16 ++ (b.extractLsb' 16 16 ++ b.extractLsb' 0 16)) = b := by
  iterate 3 rw [BitVec.extractLsb'_append_extractLsb'_eq_extractLsb' (by rfl)]
  exact BitVec.extractLsb'_eq_self

theorem extract_append_high {n : Nat} (x : Word) (y : BitVec n) : (x ++ y).extractLsb' n 16 = x := by
  rw [BitVec.extractLsb'_append_eq_of_le le_rfl, Nat.sub_self]
  exact BitVec.extractLsb'_eq_self

theorem quadWords_append (w0 w1 w2 w3 : Word) : quadWords (w3 ++ (w2 ++ (w1 ++ w0))) = [w0, w1, w2, w3] := by
  have below : ∀ {n k : Nat} (x : Word) (y : BitVec n), k + 16 ≤ n → (x ++ y).extractLsb' k 16 = y.extractLsb' k 16 :=
    fun _ _ h => BitVec.extractLsb'_append_eq_of_add_le h
  have h0 : (w3 ++ (w2 ++ (w1 ++ w0))).extractLsb' 0 16 = w0 := by
    rw [below _ _ (by omega), below _ _ (by omega), below _ _ (by omega), BitVec.extractLsb'_eq_self]
  have h1 : (w3 ++ (w2 ++ (w1 ++ w0))).extractLsb' 16 16 = w1 := by
    rw [below _ _ (by omega), below _ _ (by omega), extract_append_high]
  have h2 : (w3 ++ (w2 ++ (w1 ++ w0))).extractLsb' 32 16 = w2 := by
    rw [below _ _ (by omega)]
    exact extract_append_high w2 (w1 ++ w0)
  have h3 : (w3 ++ (w2 ++ (w1 ++ w0))).extractLsb' 48 16 = w3 := extract_append_high w3 (w2 ++ (w1 ++ w0))
  exact congr (congrArg _ h0) (congr (congrArg _ h1) (congr (congrArg _ h2) (congrArg (· :: []) h3)))

theorem operandQuads_quadWords (x y : BitVec 64) :
    operandQuad (quadWords x ++ quadWords y) 0 = x ∧ operandQuad (quadWords x ++ quadWords y) 4 = y :=
  ⟨append_quadWords x, append_quadWords y⟩

/-- Eight operand words are the words of their two patterns. -/
theorem quadWords_operandQuads {d : List Word} (h : d.length = 8) :
    quadWords (operandQuad d 0) ++ quadWords (operandQuad d 4) = d := by
  match d, h with
  | [w0, w1, w2, w3, w4, w5, w6, w7], _ =>
    exact congrArg₂ (· ++ ·) (quadWords_append w0 w1 w2 w3) (quadWords_append w4 w5 w6 w7)

end Sys2Proof.Proofs
end

section
/-! The address classes of R82 in numbers, and that every offset lies in one of them. -/

namespace Sys2Proof.Proofs

open Sys2Proof

theorem isEven_iff (a : Word) : isEven a = true ↔ a.toNat % 2 = 0 := by simp [isEven]

theorem isBeyondWindow_iff (a : Word) : isBeyondWindow a = true ↔ a.toNat % 2 = 0 ∧ 0x8000 ≤ a.toNat := by
  simp [isBeyondWindow, isEven_iff]

theorem isSlotReg_iff (a : Word) : isSlotReg a = true ↔ a.toNat % 2 = 0 ∧ a.toNat < 0x2000 := by
  simp [isSlotReg, isEven_iff]

theorem isEfspanReg_iff (a : Word) : isEfspanReg a = true ↔ a.toNat % 2 = 0 ∧ 0x2000 ≤ a.toNat ∧ a.toNat ≤ 0x2044 := by
  simp [isEfspanReg, isEven_iff, and_assoc]

theorem isRefusedReg_iff (a : Word) : isRefusedReg a = true ↔ a.toNat % 2 = 0 ∧
    (((0x2808 ≤ a.toNat ∧ a.toNat ≤ 0x280A) ∨ (0x2880 ≤ a.toNat ∧ a.toNat ≤ 0x288E)) ∨
      (0x3000 ≤ a.toNat ∧ a.toNat ≤ 0x7FFE)) := by
  simp [isRefusedReg, isEven_iff]

theorem isMonitorReg_iff (a : Word) : isMonitorReg a = true ↔ a.toNat = 0x2810 ∨ a.toNat = 0x2814 ∨ a.toNat = 0x28B8 := by
  simp [isMonitorReg, BitVec.toNat_eq, or_assoc]

theorem isCommonReg_iff (a : Word) : isCommonReg a = true ↔ (a.toNat % 2 = 0 ∧ 0x2800 ≤ a.toNat ∧ a.toNat ≤ 0x28BC) ∧
    ¬((0x2808 ≤ a.toNat ∧ a.toNat ≤ 0x280A) ∨ (0x2880 ≤ a.toNat ∧ a.toNat ≤ 0x288E)) ∧
    ¬(a.toNat = 0x2810 ∨ a.toNat = 0x2814 ∨ a.toNat = 0x28B8) := by
  have hrefused := isRefusedReg_iff a
  have hmonitor := isMonitorReg_iff a
  simp only [isCommonReg, Bool.and_eq_true, Bool.not_eq_true', decide_eq_true_eq, ← Bool.not_eq_true, isEven_iff]
  rw [hrefused, hmonitor]
  omega

theorem isPlainCommonReg_iff (a : Word) : isPlainCommonReg a = true ↔ isCommonReg a = true ∧
    a.toNat ≠ 0x2890 ∧ a.toNat ≠ 0x2894 ∧ a.toNat ≠ 0x2898 ∧ a.toNat ≠ 0x28A4 := by
  simp [isPlainCommonReg, BitVec.toNat_eq, and_assoc]

theorem isIrqReg_iff (a : Word) : isIrqReg a = true ↔ a.toNat = 0x2D00 ∨ a.toNat = 0x2D04 := by
  simp [isIrqReg, BitVec.toNat_eq]

theorem isUnmappedReg_iff (a : Word) : isUnmappedReg a = true ↔ a.toNat % 2 = 0 ∧
    ((0x2046 ≤ a.toNat ∧ a.toNat ≤ 0x27FE) ∨ (0x28BE ≤ a.toNat ∧ a.toNat ≤ 0x2CFE) ∨ a.toNat = 0x2D02 ∨
      (0x2D06 ≤ a.toNat ∧ a.toNat ≤ 0x2FFE)) := by
  simp [isUnmappedReg, isEven_iff, BitVec.toNat_eq, or_assoc]

/-- Every offset lies in one of the nine classes (R82). -/
theorem addressClass_cases (a : Word) :
    (!isEven a) = true ∨ isBeyondWindow a = true ∨ isSlotReg a = true ∨ isEfspanReg a = true ∨ isUnmappedReg a = true ∨
      isRefusedReg a = true ∨ isMonitorReg a = true ∨ isCommonReg a = true ∨ isIrqReg a = true := by
  rw [Bool.not_eq_true', ← Bool.not_eq_true, isEven_iff, isBeyondWindow_iff, isSlotReg_iff, isEfspanReg_iff, isUnmappedReg_iff,
    isRefusedReg_iff, isMonitorReg_iff, isCommonReg_iff, isIrqReg_iff]
  omega

end Sys2Proof.Proofs
end

section
/-! The decoder of host reads and writes by the address class of the offset (R82). -/

namespace Sys2Proof.Proofs

open Sys2Proof

variable {a : Word}

/-! ### Host reads -/

theorem decodeRead_odd (h : (!isEven a) = true) : decodeRead a = .r16RefuseOdd a := by
  rw [Bool.not_eq_true', ← Bool.not_eq_true, isEven_iff] at h
  simp (disch := omega) only [decodeRead, if_pos]

theorem decodeRead_window (h : isBeyondWindow a = true) : decodeRead a = .r16RefuseWindow a := by
  rw [isBeyondWindow_iff] at h
  simp (disch := omega) only [decodeRead, if_pos, if_neg]

theorem decodeRead_slot (h : isSlotReg a = true) : decodeRead a = .r16Slot a := by
  rw [isSlotReg_iff] at h
  simp (disch := omega) only [decodeRead, if_pos, if_neg]

theorem decodeRead_efspan (h : isEfspanReg a = true) : decodeRead a = .r16Efspan a := by
  rw [isEfspanReg_iff] at h
  simp (disch := omega) only [decodeRead, if_pos, if_neg]

theorem decodeRead_unmapped (h : isUnmappedReg a = true) : decodeRead a = .r16Unmapped a := by
  rw [isUnmappedReg_iff] at h
  obtain ⟨heven, hlow | hhigh⟩ := h
  · simp (disch := omega) only [decodeRead, if_pos, if_neg]
  · simp (disch := omega) only [decodeRead, if_neg]

theorem decodeRead_refused (h : isRefusedReg a = true) : decodeRead a = .r16Refused a := by
  rw [isRefusedReg_iff] at h
  obtain ⟨heven, hlow | hhigh⟩ := h
  · simp (disch := omega) only [decodeRead, if_pos, if_neg]
  · simp (disch := omega) only [decodeRead, if_pos, if_neg]

theorem decodeRead_monitor (h : isMonitorReg a = true) : decodeRead a = .r16Monitor a := by
  rw [isMonitorReg_iff] at h
  simp (disch := omega) only [decodeRead, if_pos, if_neg]

theorem decodeRead_common (h : isCommonReg a = true) : decodeRead a = .r16Common a := by
  rw [isCommonReg_iff] at h
  simp (disch := omega) only [decodeRead, if_pos, if_neg]

theorem decodeRead_irqreg (h : isIrqReg a = true) : decodeRead a = .r16Irqreg a := by
  rw [isIrqReg_iff] at h
  simp (disch := omega) only [decodeRead, if_pos, if_neg]

/-! ### Host writes -/

section
variable (v m : Word)

theorem decodeWrite_odd (h : (!isEven a) = true) : decodeWrite a v m = .w16RefuseOdd a v m := by
  rw [Bool.not_eq_true', ← Bool.not_eq_true, isEven_iff] at h
  simp (disch := omega) only [decodeWrite, if_pos]

theorem decodeWrite_window (h : isBeyondWindow a = true) : decodeWrite a v m = .w16RefuseWindow a v m := by
  rw [isBeyondWindow_iff] at h
  simp (disch := omega) only [decodeWrite, if_pos, if_neg]

theorem decodeWrite_slot (h : isSlotReg a = true) : decodeWrite a v m = decodeSlotWrite a v m := by
  rw [isSlotReg_iff] at h
  simp (disch := omega) only [decodeWrite, if_pos, if_neg]

theorem decodeWrite_efspan (h : isEfspanReg a = true) : decodeWrite a v m = .w16Efspan a v m := by
  rw [isEfspanReg_iff] at h
  simp (disch := omega) only [decodeWrite, if_pos, if_neg]

theorem decodeWrite_unmapped (h : isUnmappedReg a = true) : decodeWrite a v m = .w16Unmapped a v m := by
  rw [isUnmappedReg_iff] at h
  obtain ⟨heven, hlow | hhigh⟩ := h
  · simp (disch := omega) only [decodeWrite, if_pos, if_neg]
  · simp (disch := omega) only [decodeWrite, if_neg]

theorem decodeWrite_refused (h : isRefusedReg a = true) : decodeWrite a v m = .w16Refused a v m := by
  rw [isRefusedReg_iff] at h
  obtain ⟨heven, hlow | hhigh⟩ := h
  · simp (disch := omega) only [decodeWrite, if_pos, if_neg]
  · simp (disch := omega) only [decodeWrite, if_pos, if_neg]

theorem decodeWrite_monitor (h : isMonitorReg a = true) : decodeWrite a v m = .w16Monitor a v m := by
  rw [isMonitorReg_iff] at h
  simp (disch := omega) only [decodeWrite, if_pos, if_neg]

theorem decodeWrite_plainCommon (h : isPlainCommonReg a = true) : decodeWrite a v m = .w16Common a v m := by
  rw [isPlainCommonReg_iff, isCommonReg_iff] at h
  simp (disch := omega) only [decodeWrite, if_pos, if_neg]

theorem decodeWrite_timer (k : Fin 3) : decodeWrite (BitVec.ofNat 16 (0x2890 + 4 * k.val)) v m = .w16Timer k v m := by
  match k with
  | 0 => rfl
  | 1 => rfl
  | 2 => rfl

theorem decodeWrite_scire : decodeWrite 0x28A4 v m = .w16Scire v m := rfl

theorem decodeWrite_irql : decodeWrite 0x2D00 v m = .w16Irql v m := rfl

theorem decodeWrite_irqr : decodeWrite 0x2D04 v m = .w16Irqr v m := rfl

end

/-- A common word is a timer's word, SCIRE or a plain one (R82 rows 12 to 14). -/
theorem isCommonReg_cases (h : isCommonReg a = true) :
    (∃ k : Fin 3, a = BitVec.ofNat 16 (0x2890 + 4 * k.val)) ∨ a = 0x28A4 ∨ isPlainCommonReg a = true := by
  rw [isPlainCommonReg_iff]
  by_cases htima : a.toNat = 0x2890
  · exact .inl ⟨0, BitVec.eq_of_toNat_eq htima⟩
  by_cases htimb : a.toNat = 0x2894
  · exact .inl ⟨1, BitVec.eq_of_toNat_eq htimb⟩
  by_cases htimc : a.toNat = 0x2898
  · exact .inl ⟨2, BitVec.eq_of_toNat_eq htimc⟩
  by_cases hscire : a.toNat = 0x28A4
  · exact .inr (.inl (BitVec.eq_of_toNat_eq hscire))
  exact .inr (.inr ⟨h, htima, htimb, htimc, hscire⟩)

/-! ### Host writes of slot words -/

/-- The operation of a host write of slot `i`'s word at slot-relative offset `o`, where it has one of its own (R82 rows 2
to 6). -/
def slotWriteOp (i : Fin 64) (v m : Word) : Nat → Option Instr
  | 0x00 => some (.w16SlotCtrl i v m)
  | 0x04 => some (.w16SlotSa i v m)
  | 0x08 => some (.w16SlotLsa i v m)
  | 0x0C => some (.w16SlotLea i v m)
  | 0x10 => some (.w16SlotEgrate i v m)
  | 0x14 => some (.w16SlotEgrel i v m)
  | 0x18 => some (.w16SlotPitch i v m)
  | 0x1C => some (.w16SlotLfo i v m)
  | 0x20 => some (.w16SlotDspsend i v m)
  | 0x24 => some (.w16SlotDirect i v m)
  | 0x28 => some (.w16SlotTl i v m)
  | _ => none

theorem isNamedSlotOffset_iff (o : Nat) : isNamedSlotOffset o = true ↔
    o = 0x00 ∨ o = 0x04 ∨ o = 0x08 ∨ o = 0x0C ∨ o = 0x10 ∨ o = 0x14 ∨ o = 0x18 ∨ o = 0x1C ∨ o = 0x20 ∨ o = 0x24 ∨
      o = 0x28 := by
  simp [isNamedSlotOffset]

/-- Exactly the named slot words have an operation of their own. -/
theorem slotWriteOp_isSome (i : Fin 64) (v m : Word) (o : Nat) :
    (slotWriteOp i v m o).isSome = isNamedSlotOffset o := by
  unfold slotWriteOp
  split
  case h_12 =>
    simp only [imp_false] at *
    simp [isNamedSlotOffset, *]
  all_goals rfl

theorem slotWriteOp_named {i : Fin 64} {v m : Word} {o : Nat} {j : Instr} (h : slotWriteOp i v m o = some j) :
    isNamedSlotOffset o = true := by
  rw [← slotWriteOp_isSome i v m, h]
  rfl

theorem slotWriteOp_unnamed (i : Fin 64) (v m : Word) {o : Nat} (h : isNamedSlotOffset o = false) :
    slotWriteOp i v m o = none := by
  rw [← Option.isSome_eq_false_iff.trans Option.isNone_iff_eq_none, slotWriteOp_isSome, h]

/-- The operation of a named slot word is well-formed, and its transaction is a host write of that word. -/
theorem slotWriteOp_encode {i : Fin 64} {v m : Word} {o : Nat} {j : Instr} (h : slotWriteOp i v m o = some j) :
    j.wf = true ∧ encode j = encodeWrite (slotOffset i o) v m := by
  unfold slotWriteOp at h
  split at h
  all_goals cases h
  all_goals exact ⟨rfl, rfl⟩

/-- The decoder's chain of slot-relative offsets is the table of the named words, with plain storage for the others. -/
theorem decodeSlotWrite_eq (a v m : Word) :
    decodeSlotWrite a v m = (slotWriteOp (slotOfOffset a) v m (a.toNat % 128)).getD (.w16SlotStore a v m) := by
  cases hnamed : isNamedSlotOffset (a.toNat % 128) with
  | false =>
    rw [slotWriteOp_unnamed _ v m hnamed]
    rw [← Bool.not_eq_true, isNamedSlotOffset_iff] at hnamed
    simp (disch := omega) only [decodeSlotWrite, if_neg, Option.getD_none]
  | true =>
    rw [isNamedSlotOffset_iff] at hnamed
    unfold decodeSlotWrite
    rcases hnamed with h | h | h | h | h | h | h | h | h | h | h
    all_goals rw [h]; rfl

theorem decodeWrite_named {v m : Word} {o : Nat} {j : Instr} (h : isSlotReg a = true) (ho : a.toNat % 128 = o)
    (hj : slotWriteOp (slotOfOffset a) v m o = some j) : decodeWrite a v m = j := by
  rw [decodeWrite_slot v m h, decodeSlotWrite_eq, ho, hj, Option.getD_some]

theorem decodeWrite_unnamed (v m : Word) (h : isSlotReg a = true) (ho : isNamedSlotOffset (a.toNat % 128) = false) :
    decodeWrite a v m = .w16SlotStore a v m := by
  rw [decodeWrite_slot v m h, decodeSlotWrite_eq, slotWriteOp_unnamed _ v m ho, Option.getD_none]

/-! ### Slot and slot-relative offset (R83) -/

theorem slotOffset_toNat (i : Fin 64) {o : Nat} (ho : o < 128) : (slotOffset i o).toNat = i.val * 128 + o := by
  unfold slotOffset
  rw [BitVec.toNat_ofNat]
  omega

theorem slotOfOffset_slotOffset (i : Fin 64) {o : Nat} (ho : o < 128) : slotOfOffset (slotOffset i o) = i := by
  refine Fin.ext ?_
  rw [slotOfOffset, slotOffset_toNat i ho, Fin.val_ofNat]
  omega

theorem slotOffset_slotOfOffset (h : isSlotReg a = true) : slotOffset (slotOfOffset a) (a.toNat % 128) = a := by
  rw [isSlotReg_iff] at h
  refine BitVec.eq_of_toNat_eq ?_
  rw [slotOffset_toNat _ (Nat.mod_lt _ (by decide)), slotOfOffset, Fin.val_ofNat]
  omega

theorem isSlotReg_slotOffset (i : Fin 64) {o : Nat} (heven : o % 2 = 0) (ho : o < 128) :
    isSlotReg (slotOffset i o) = true := by
  rw [isSlotReg_iff, slotOffset_toNat i ho]
  omega

/-- A host write of a named slot word decodes to the word's operation. -/
theorem decodeWrite_slotOffset {i : Fin 64} {v m : Word} {o : Nat} {j : Instr} (h : slotWriteOp i v m o = some j) :
    decodeWrite (slotOffset i o) v m = j := by
  have ho : o % 2 = 0 ∧ o < 128 := by
    have hnamed := (isNamedSlotOffset_iff o).mp (slotWriteOp_named h)
    omega
  have hmod : (slotOffset i o).toNat % 128 = o := by
    rw [slotOffset_toNat i ho.2]
    omega
  refine decodeWrite_named (isSlotReg_slotOffset i ho.1 ho.2) hmod ?_
  rw [slotOfOffset_slotOffset i ho.2, h]

end Sys2Proof.Proofs
end

section
/-! Decoding and encoding are inverse (R80 to R83). -/

namespace Sys2Proof.Proofs

open Sys2Proof

/-! ### Decoding what was encoded -/

theorem decode_read {a : Word} {i : Instr} (h : decodeRead a = i) : decode ⟨mkKey 0 a, []⟩ = .ok i := by
  rw [decode_mkKey, ← h]
  rfl

theorem decode_write {a v m : Word} {i : Instr} (h : decodeWrite a v m = i) : decode (encodeWrite a v m) = .ok i := by
  have hdecode : decodeOp 1 a [v, ~~~ m] = .ok (decodeWrite a v (~~~ ~~~ m)) := rfl
  rw [encodeWrite, decode_mkKey, hdecode, BitVec.not_not, h]

theorem decode_slotWrite {i : Fin 64} {v m : Word} {o : Nat} {j : Instr} (h : slotWriteOp i v m o = some j) :
    decode (encode j) = .ok j := by
  rw [(slotWriteOp_encode h).2]
  exact decode_write (decodeWrite_slotOffset h)

theorem decode_tick {efreg : List Word} (h : efreg.length = 16) : decode ⟨mkKey 2 0, efreg⟩ = .ok (.tick efreg) := by
  have hdecode : decodeOp 2 0 efreg = (takeOperands 16 efreg).map .tick := rfl
  rw [decode_mkKey, hdecode, takeOperands_self h]
  rfl

theorem decode_fadeConfigure (lengthS fadeS : BitVec 64) :
    decode ⟨mkKey 3 0, quadWords lengthS ++ quadWords fadeS⟩ = .ok (.fadeConfigure lengthS fadeS) := by
  obtain ⟨hlength, hfade⟩ := operandQuads_quadWords lengthS fadeS
  have hdecode : decodeOp 3 0 (quadWords lengthS ++ quadWords fadeS) =
      .ok (.fadeConfigure (operandQuad (quadWords lengthS ++ quadWords fadeS) 0)
        (operandQuad (quadWords lengthS ++ quadWords fadeS) 4)) := rfl
  rw [decode_mkKey, hdecode, hlength, hfade]

theorem decode_reserved {op : BitVec 4} (low : Word) (h : 9 ≤ op.toNat) :
    decode ⟨mkKey op low, []⟩ = .ok (.reserved op low) := by
  rw [decode_mkKey]
  unfold decodeOp
  split
  case h_10 => rfl
  all_goals omega

/-- The decoder is a left inverse of the encoder on well-formed operations, constructor by constructor. -/
theorem decode_encode : ∀ {i : Instr}, i.wf = true → decode (encode i) = .ok i
  | .r16RefuseOdd _, h => decode_read (decodeRead_odd h)
  | .r16RefuseWindow _, h => decode_read (decodeRead_window h)
  | .r16Slot _, h => decode_read (decodeRead_slot h)
  | .r16Efspan _, h => decode_read (decodeRead_efspan h)
  | .r16Unmapped _, h => decode_read (decodeRead_unmapped h)
  | .r16Refused _, h => decode_read (decodeRead_refused h)
  | .r16Monitor _, h => decode_read (decodeRead_monitor h)
  | .r16Common _, h => decode_read (decodeRead_common h)
  | .r16Irqreg _, h => decode_read (decodeRead_irqreg h)
  | .w16RefuseOdd _ v m, h => decode_write (decodeWrite_odd v m h)
  | .w16RefuseWindow _ v m, h => decode_write (decodeWrite_window v m h)
  | .w16SlotCtrl _ _ _, _ => decode_slotWrite (o := 0x00) rfl
  | .w16SlotEgrel _ _ _, _ => decode_slotWrite (o := 0x14) rfl
  | .w16SlotPitch _ _ _, _ => decode_slotWrite (o := 0x18) rfl
  | .w16SlotLfo _ _ _, _ => decode_slotWrite (o := 0x1C) rfl
  | .w16SlotSa _ _ _, _ => decode_slotWrite (o := 0x04) rfl
  | .w16SlotLsa _ _ _, _ => decode_slotWrite (o := 0x08) rfl
  | .w16SlotLea _ _ _, _ => decode_slotWrite (o := 0x0C) rfl
  | .w16SlotEgrate _ _ _, _ => decode_slotWrite (o := 0x10) rfl
  | .w16SlotDspsend _ _ _, _ => decode_slotWrite (o := 0x20) rfl
  | .w16SlotDirect _ _ _, _ => decode_slotWrite (o := 0x24) rfl
  | .w16SlotTl _ _ _, _ => decode_slotWrite (o := 0x28) rfl
  | .w16SlotStore _ v m, h => by
    obtain ⟨hslot, hunnamed⟩ := Bool.and_eq_true_iff.mp h
    exact decode_write (decodeWrite_unnamed v m hslot (Bool.not_eq_true' _ ▸ hunnamed))
  | .w16Efspan _ v m, h => decode_write (decodeWrite_efspan v m h)
  | .w16Unmapped _ v m, h => decode_write (decodeWrite_unmapped v m h)
  | .w16Refused _ v m, h => decode_write (decodeWrite_refused v m h)
  | .w16Monitor _ v m, h => decode_write (decodeWrite_monitor v m h)
  | .w16Timer k v m, _ => decode_write (decodeWrite_timer v m k)
  | .w16Scire v m, _ => decode_write (decodeWrite_scire v m)
  | .w16Common _ v m, h => decode_write (decodeWrite_plainCommon v m h)
  | .w16Irql v m, _ => decode_write (decodeWrite_irql v m)
  | .w16Irqr v m, _ => decode_write (decodeWrite_irqr v m)
  | .tick _, h => decode_tick (eq_of_beq h)
  | .fadeConfigure lengthS fadeS, _ => decode_fadeConfigure lengthS fadeS
  | .fadeAdvance l r, _ => decode_mkKey 4 0 [l, r]
  | .fadeCount, _ => decode_mkKey 5 0 []
  | .fadeTotal, _ => decode_mkKey 6 0 []
  | .reset, _ => decode_mkKey 7 0 []
  | .midiNotify true, _ => decode_mkKey 8 0 [1]
  | .midiNotify false, _ => decode_mkKey 8 0 [0]
  | .reserved _ low, h => decode_reserved low (of_decide_eq_true h)

/-- Settles O1: the decoder by op code and address class. -/
theorem decodeEncode : Obligations.DecodeEncode := by
  intro i h
  exact decode_encode h

/-! ### Encoding what was decoded -/

/-- `i` is well-formed, and its transaction is `t` but for zero words after the operands (R80, R81; assumption log 2). -/
def EncodesBack (t : Transaction) (i : Instr) : Prop :=
  i.wf = true ∧ (encode i).key = t.key ∧ ∃ zeros : List Word, (∀ z ∈ zeros, z = 0) ∧ t.data = (encode i).data ++ zeros

theorem encodesBack_of_takeOperands {n : Nat} {data d : List Word} {k : BitVec 20} {i : Instr}
    (hd : takeOperands n data = .ok d) (hi : d.length = n → i.wf = true ∧ encode i = ⟨k, d⟩) : EncodesBack ⟨k, data⟩ i := by
  obtain ⟨hlength, zeros, hzeros, hdata⟩ := takeOperands_ok hd
  obtain ⟨hwf, hencode⟩ := hi hlength
  refine ⟨hwf, ?_, zeros, hzeros, ?_⟩
  · rw [hencode]
  · rw [hencode]
    exact hdata

/-- An operation that takes `n` operand words and is made of them. -/
theorem encodesBack_of_map {n : Nat} {data : List Word} {k : BitVec 20} {i : Instr} {f : List Word → Instr}
    (h : (takeOperands n data).map f = .ok i) (hf : ∀ d, d.length = n → (f d).wf = true ∧ encode (f d) = ⟨k, d⟩) :
    EncodesBack ⟨k, data⟩ i := by
  cases hd : takeOperands n data with
  | error e => rw [hd] at h; cases h
  | ok d =>
    rw [hd] at h
    cases h
    exact encodesBack_of_takeOperands hd (hf d)

theorem decodeRead_encodes (a : Word) : (decodeRead a).wf = true ∧ encode (decodeRead a) = ⟨mkKey 0 a, []⟩ := by
  rcases addressClass_cases a with h | h | h | h | h | h | h | h | h
  · rw [decodeRead_odd h]; exact ⟨h, rfl⟩
  · rw [decodeRead_window h]; exact ⟨h, rfl⟩
  · rw [decodeRead_slot h]; exact ⟨h, rfl⟩
  · rw [decodeRead_efspan h]; exact ⟨h, rfl⟩
  · rw [decodeRead_unmapped h]; exact ⟨h, rfl⟩
  · rw [decodeRead_refused h]; exact ⟨h, rfl⟩
  · rw [decodeRead_monitor h]; exact ⟨h, rfl⟩
  · rw [decodeRead_common h]; exact ⟨h, rfl⟩
  · rw [decodeRead_irqreg h]; exact ⟨h, rfl⟩

/-- `i` is a well-formed operation whose transaction is the host write of `v` under `m` at `a`. -/
def EncodesWrite (a v m : Word) (i : Instr) : Prop := i.wf = true ∧ encode i = encodeWrite a v m

theorem decodeWrite_encodes_slot {a : Word} (v m : Word) (h : isSlotReg a = true) :
    EncodesWrite a v m (decodeWrite a v m) := by
  cases hop : slotWriteOp (slotOfOffset a) v m (a.toNat % 128) with
  | some j =>
    rw [decodeWrite_named h rfl hop]
    have hj := slotWriteOp_encode hop
    rwa [slotOffset_slotOfOffset h] at hj
  | none =>
    have hunnamed : isNamedSlotOffset (a.toNat % 128) = false := by
      rw [← slotWriteOp_isSome (slotOfOffset a) v m, hop]
      rfl
    rw [decodeWrite_unnamed v m h hunnamed]
    exact ⟨by rw [Instr.wf, h, hunnamed]; rfl, rfl⟩

theorem decodeWrite_encodes_common {a : Word} (v m : Word) (h : isCommonReg a = true) :
    EncodesWrite a v m (decodeWrite a v m) := by
  rcases isCommonReg_cases h with ⟨k, rfl⟩ | rfl | hplain
  · rw [decodeWrite_timer]; exact ⟨rfl, rfl⟩
  · exact ⟨rfl, rfl⟩
  · rw [decodeWrite_plainCommon v m hplain]; exact ⟨hplain, rfl⟩

theorem decodeWrite_encodes_irqreg {a : Word} (v m : Word) (h : isIrqReg a = true) :
    EncodesWrite a v m (decodeWrite a v m) := by
  rw [isIrqReg, Bool.or_eq_true, beq_iff_eq, beq_iff_eq] at h
  obtain rfl | rfl := h
  · exact ⟨rfl, rfl⟩
  · exact ⟨rfl, rfl⟩

theorem decodeWrite_encodes (a v m : Word) : EncodesWrite a v m (decodeWrite a v m) := by
  rcases addressClass_cases a with h | h | h | h | h | h | h | h | h
  · rw [decodeWrite_odd v m h]; exact ⟨h, rfl⟩
  · rw [decodeWrite_window v m h]; exact ⟨h, rfl⟩
  · exact decodeWrite_encodes_slot v m h
  · rw [decodeWrite_efspan v m h]; exact ⟨h, rfl⟩
  · rw [decodeWrite_unmapped v m h]; exact ⟨h, rfl⟩
  · rw [decodeWrite_refused v m h]; exact ⟨h, rfl⟩
  · rw [decodeWrite_monitor v m h]; exact ⟨h, rfl⟩
  · exact decodeWrite_encodes_common v m h
  · exact decodeWrite_encodes_irqreg v m h

theorem hostWrite_operands {d : List Word} (a : Word) (h : d.length = 2) :
    encodeWrite a (operandWord d 0) (~~~ operandWord d 1) = ⟨mkKey 1 a, d⟩ := by
  match d, h with
  | [v, m], _ =>
    have hwrite : encodeWrite a v (~~~ m) = ⟨mkKey 1 a, [v, ~~~ ~~~ m]⟩ := rfl
    rwa [BitVec.not_not] at hwrite

theorem pair_operands {d : List Word} (h : d.length = 2) : [operandWord d 0, operandWord d 1] = d := by
  match d, h with
  | [_, _], _ => rfl

/-- MIDI_NOTIFY takes the word 0 or 1 (R269; assumption log 3). -/
theorem midiNotify_encodesBack {data : List Word} {i : Instr} (h : decodeOp 8 0 data = .ok i) :
    EncodesBack ⟨mkKey 8 0, data⟩ i := by
  have hdecode : decodeOp 8 0 data = (takeOperands 1 data).bind fun d =>
      if operandWord d 0 = 0 then .ok (.midiNotify false)
      else if operandWord d 0 = 1 then .ok (.midiNotify true)
      else .error .notBool := rfl
  rw [hdecode] at h
  cases hd : takeOperands 1 data with
  | error e => rw [hd] at h; cases h
  | ok d =>
    rw [hd] at h
    refine encodesBack_of_takeOperands hd fun hlength => ?_
    match d, hlength with
    | [w], _ =>
      dsimp only [Except.bind] at h
      split at h
      · rename_i hw
        cases h
        exact ⟨rfl, congrArg (fun w => Transaction.mk (mkKey 8 0) [w]) hw.symm⟩
      · split at h
        · rename_i hw
          cases h
          exact ⟨rfl, congrArg (fun w => Transaction.mk (mkKey 8 0) [w]) hw.symm⟩
        · cases h

/-- Op codes 2 to 8 have address bits 0 (R81). -/
theorem zeroAddress_of_ok {a : Word} {x : Except DecodeError Instr} {i : Instr}
    (h : (if a ≠ 0 then .error .addressBits else x) = .ok i) : a = 0 ∧ x = .ok i := by
  split at h
  · cases h
  · rename_i ha
    exact ⟨not_not.mp ha, h⟩

/-- An operation of op codes 2 to 8 that takes `n` operand words and is made of them. -/
theorem encodesBack_of_zeroAddress {op : BitVec 4} {a : Word} {n : Nat} {data : List Word} {i : Instr}
    {f : List Word → Instr} (h : (if a ≠ 0 then .error .addressBits else (takeOperands n data).map f) = .ok i)
    (hf : ∀ d, d.length = n → (f d).wf = true ∧ encode (f d) = ⟨mkKey op 0, d⟩) : EncodesBack ⟨mkKey op a, data⟩ i := by
  obtain ⟨rfl, hmap⟩ := zeroAddress_of_ok h
  exact encodesBack_of_map hmap hf

/-- What the decoder gives encodes back, op code by op code (R80). -/
theorem decodeOp_encodesBack {op : BitVec 4} {a : Word} {data : List Word} {i : Instr} (h : decodeOp op a data = .ok i) :
    EncodesBack ⟨mkKey op a, data⟩ i := by
  have hop : ∀ {n : BitVec 4}, op.toNat = n.toNat → op = n := BitVec.eq_of_toNat_eq
  have hnone : ∀ {d : List Word}, d.length = 0 → [] = d := fun h => (List.length_eq_zero_iff.mp h).symm
  have hdecode := h
  unfold decodeOp at h
  split at h
  · obtain rfl := hop (n := 0) ‹_›
    refine encodesBack_of_map h fun d hd => ?_
    rw [← hnone hd]
    exact decodeRead_encodes a
  · obtain rfl := hop (n := 1) ‹_›
    refine encodesBack_of_map h fun d hd => ?_
    rw [← hostWrite_operands a hd]
    exact decodeWrite_encodes _ _ _
  · obtain rfl := hop (n := 2) ‹_›
    exact encodesBack_of_zeroAddress h fun d hd => ⟨beq_iff_eq.mpr hd, rfl⟩
  · obtain rfl := hop (n := 3) ‹_›
    exact encodesBack_of_zeroAddress h fun d hd => ⟨rfl, congrArg (Transaction.mk _) (quadWords_operandQuads hd)⟩
  · obtain rfl := hop (n := 4) ‹_›
    exact encodesBack_of_zeroAddress h fun d hd => ⟨rfl, congrArg (Transaction.mk _) (pair_operands hd)⟩
  · obtain rfl := hop (n := 5) ‹_›
    exact encodesBack_of_zeroAddress h fun d hd => ⟨rfl, congrArg (Transaction.mk _) (hnone hd)⟩
  · obtain rfl := hop (n := 6) ‹_›
    exact encodesBack_of_zeroAddress h fun d hd => ⟨rfl, congrArg (Transaction.mk _) (hnone hd)⟩
  · obtain rfl := hop (n := 7) ‹_›
    exact encodesBack_of_zeroAddress h fun d hd => ⟨rfl, congrArg (Transaction.mk _) (hnone hd)⟩
  · obtain rfl := hop (n := 8) ‹_›
    obtain ⟨rfl, -⟩ := zeroAddress_of_ok h
    exact midiNotify_encodesBack hdecode
  · have hreserved : 9 ≤ op.toNat := by
      simp only [imp_false] at *
      omega
    exact encodesBack_of_map h fun d hd => ⟨decide_eq_true hreserved, congrArg (Transaction.mk _) (hnone hd)⟩

/-- Settles O2: the encoder on what each op code decodes to, with the key put together from its two halves. -/
theorem decodedEncodesBack : Obligations.DecodedEncodesBack := by
  intro t i h
  have hback : EncodesBack ⟨mkKey (t.key.extractLsb' 16 4) (t.key.extractLsb' 0 16), t.data⟩ i := decodeOp_encodesBack h
  rwa [mkKey_parts] at hback

end Sys2Proof.Proofs
end

section
/-! R82's table of host reads and writes, and keys written out from it. -/

namespace Sys2Proof.Proofs

open Sys2Proof

/-- A row of R82's table, under the row's condition `c`: the operation of the host read at `a`, and that of the host write
of `v` under `m` there. -/
theorem decode_row {a v m : Word} {r w : Instr} {c : Prop} (h : c) (hr : c → decodeRead a = r)
    (hw : c → decodeWrite a v m = w) :
    decode ⟨mkKey 0 a, []⟩ = .ok r ∧ decode ⟨mkKey 1 a, [v, ~~~ m]⟩ = .ok w :=
  ⟨decode_read (hr h), decode_write (hw h)⟩

/-- The rows of the named slot words (R82 rows 2 to 6). -/
theorem decode_row_slot {a v m : Word} {o : Nat} {w : Instr} (heven : a.toNat % 2 = 0)
    (h : a.toNat < 0x2000 ∧ a.toNat % 128 = o) (hw : slotWriteOp (slotOfOffset a) v m o = some w) :
    decode ⟨mkKey 0 a, []⟩ = .ok (.r16Slot a) ∧ decode ⟨mkKey 1 a, [v, ~~~ m]⟩ = .ok w := by
  obtain ⟨hlt, ho⟩ := h
  exact decode_row ((isSlotReg_iff a).mpr ⟨heven, hlt⟩) decodeRead_slot fun hslot => decodeWrite_named hslot ho hw

/-- A row of one offset `b` (R82 rows 12, 13, 15, 16). -/
theorem decode_row_at {a v m : Word} {w : Instr} {r : Word → Instr} (b : Word) (h : a.toNat = b.toNat)
    (hr : decodeRead b = r b) (hw : decodeWrite b v m = w) :
    decode ⟨mkKey 0 a, []⟩ = .ok (r a) ∧ decode ⟨mkKey 1 a, [v, ~~~ m]⟩ = .ok w := by
  obtain rfl := BitVec.eq_of_toNat_eq h
  exact ⟨decode_read hr, decode_write hw⟩

/-- The first row of a table decides where its condition holds, the rows after it elsewhere. -/
theorem firstRow {c p q : Prop} [Decidable c] (hrow : c → p) (hrest : ¬c → q) : if c then p else q :=
  ite_prop_iff_and.mpr ⟨hrow, hrest⟩

/-- Settles O3: the rows in their order; what the rows before leave open puts the offset in the row's address class. -/
theorem addressTable : Obligations.AddressTable := by
  intro a v m
  have hodd : a.getLsbD 0 = true ↔ a.toNat % 2 = 1 := by simp [BitVec.getLsbD]
  have ho : (a &&& 0x7F).toNat = a.toNat % 128 := by
    rw [BitVec.toNat_and]
    exact Nat.and_two_pow_sub_one_eq_mod a.toNat 7
  dsimp only
  rw [ho]
  -- row 1: an odd offset, an offset past the window
  refine firstRow (fun hbit => ?_) fun hbit => ?_
  · exact decode_row (by simp [isEven, hodd.mp hbit]) decodeRead_odd (decodeWrite_odd v m)
  have heven : a.toNat % 2 = 0 := Nat.mod_two_ne_one.mp (mt hodd.mpr hbit)
  refine firstRow (fun _ => ?_) fun _ => ?_
  · exact decode_row ((isBeyondWindow_iff a).mpr (by omega)) decodeRead_window (decodeWrite_window v m)
  -- rows 2 to 7: the named slot words, the other slot words
  iterate 11 refine firstRow (fun h => decode_row_slot heven h rfl) fun _ => ?_
  refine firstRow (fun _ => ?_) fun _ => ?_
  · have hunnamed : isNamedSlotOffset (a.toNat % 128) = false := by
      rw [← Bool.not_eq_true, isNamedSlotOffset_iff]
      omega
    exact decode_row ((isSlotReg_iff a).mpr (by omega)) decodeRead_slot fun h => decodeWrite_unnamed v m h hunnamed
  -- rows 8 to 11: effect returns, unmapped and refused words, monitor words
  refine firstRow (fun _ => ?_) fun _ => ?_
  · exact decode_row ((isEfspanReg_iff a).mpr (by omega)) decodeRead_efspan (decodeWrite_efspan v m)
  refine firstRow (fun _ => ?_) fun _ => ?_
  · exact decode_row ((isUnmappedReg_iff a).mpr (by omega)) decodeRead_unmapped (decodeWrite_unmapped v m)
  refine firstRow (fun _ => ?_) fun _ => ?_
  · exact decode_row ((isRefusedReg_iff a).mpr (by omega)) decodeRead_refused (decodeWrite_refused v m)
  refine firstRow (fun _ => ?_) fun _ => ?_
  · exact decode_row ((isMonitorReg_iff a).mpr (by omega)) decodeRead_monitor (decodeWrite_monitor v m)
  -- rows 12 to 14: timers, SCIRE, the other common words
  refine firstRow (fun h => decode_row_at 0x2890 h rfl rfl) fun _ => ?_
  refine firstRow (fun h => decode_row_at 0x2894 h rfl rfl) fun _ => ?_
  refine firstRow (fun h => decode_row_at 0x2898 h rfl rfl) fun _ => ?_
  refine firstRow (fun h => decode_row_at 0x28A4 h rfl rfl) fun _ => ?_
  refine firstRow (fun _ => ?_) fun _ => ?_
  · have hcommon : isCommonReg a = true := (isCommonReg_iff a).mpr (by omega)
    have hplain : isPlainCommonReg a = true := (isPlainCommonReg_iff a).mpr ⟨hcommon, by omega⟩
    exact decode_row hplain (fun _ => decodeRead_common hcommon) (decodeWrite_plainCommon v m)
  -- rows 15 to 18: IRQL, IRQR, refused and unmapped words
  refine firstRow (fun h => decode_row_at 0x2D00 h rfl rfl) fun _ => ?_
  refine firstRow (fun h => decode_row_at 0x2D04 h rfl rfl) fun _ => ?_
  refine firstRow (fun _ => ?_) fun _ => ?_
  · exact decode_row ((isRefusedReg_iff a).mpr (by omega)) decodeRead_refused (decodeWrite_refused v m)
  · exact decode_row ((isUnmappedReg_iff a).mpr (by omega)) decodeRead_unmapped (decodeWrite_unmapped v m)

/-- Settles O4: twelve closed keys, evaluated. -/
theorem keysDecode : Obligations.KeysDecode := by
  unfold Obligations.KeysDecode
  decide

end Sys2Proof.Proofs
end

section
/-! Reads of monitor and unmapped words, and of wave RAM at any address (R61, R62, R84, R85). -/

namespace Sys2Proof.Proofs

open Sys2Proof Sys2Proof.Machine

/-- A write of an unmapped word under an admitted mask changes nothing (R85). -/
theorem exec_w16Unmapped (a v : Word) {m : Word} (s : State) (h : maskAdmitted m = true) :
    exec (.w16Unmapped a v m) s = .next (s.ret .none) := by
  have hm : byteEnableOk m = true := by
    rw [byteEnableOk_iff]
    simpa [maskAdmitted] using h
  exact congrArg _ (State.hostWrite_ok s id hm)

/-- A byte read depends on the masked address alone (R61). -/
theorem memByte_of_mod_eq (s : State) {x y : Nat} (d : Nat) (h : x % 0x800000 = y % 0x800000) :
    s.memByte x d = s.memByte y d := by
  unfold State.memByte waveMask
  rw [h]

/-- The high byte is read after the low one, at the next masked address (R62). -/
theorem memWord_eq (s : State) (address d : Nat) :
    s.memWord address d =
      let lo := s.memByte address d
      let hi := s.memByte ((address + 1) % 0x800000) lo.2
      (hi.1 ++ lo.1, hi.2) := by
  have hhi : (waveMask address + 1) % 0x800000 = (address + 1) % 0x800000 % 0x800000 := by
    unfold waveMask
    omega
  unfold State.memWord
  dsimp only
  rw [memByte_of_mod_eq s _ hhi]

theorem toNat_append_byte (hi lo : Byte) : (hi ++ lo).toNat = lo.toNat + 256 * hi.toNat := by
  rw [BitVec.toNat_append, ← Nat.shiftLeft_add_eq_or_of_lt lo.isLt, Nat.shiftLeft_eq]
  omega

/-- Settles O11: the two reads that draw, the write that changes nothing, and the byte reads of wave RAM. -/
theorem unsettledWords : Obligations.UnsettledWords := by
  intro a v m s
  refine ⟨rfl, rfl, exec_w16Unmapped a v s, fun address d => ⟨rfl, ?_⟩⟩
  dsimp only
  rw [memWord_eq]
  exact ⟨toNat_append_byte _ _, rfl⟩

end Sys2Proof.Proofs
end

section
/-! What the key scan does to one slot (R125), and the pseudo-operations KEYON and KEYOFF (R93, R144). -/

namespace Sys2Proof.Proofs

open Sys2Proof Sys2Proof.Machine

/-! ### The registers in the key scan -/

/-- `t` has the registers of `s`, but for one word of slot `i` at most. -/
def OneSlotWord (s t : State) (i : Fin 64) : Prop :=
  t.regs = s.regs ∨ ∃ o v, o < 0x80 ∧ t.regs = (s.setReg (slotReg i o) v).regs

theorem oneSlotWord_wf {s t : State} {i : Fin 64} (h : OneSlotWord s t i) (hwf : RegFile.wf s.regs = true) :
    RegFile.wf t.regs = true := by
  obtain h | ⟨o, v, -, h⟩ := h
  · rwa [h]
  · rw [h]
    exact State.setReg_regs_wf s _ v hwf

theorem oneSlotWord_reg {s t : State} {i j : Fin 64} (h : OneSlotWord s t j) (hij : i ≠ j) {o : Nat} (ho : o < 0x80) :
    t.reg (slotReg i o) = s.reg (slotReg i o) := by
  unfold State.reg
  obtain h | ⟨p, v, hp, h⟩ := h
  · rw [h]
  · rw [h]
    exact State.setReg_reg_ne s v fun e => hij ((slotReg_inj ho hp).mp e).1

theorem adpcmKeyOn_oneSlotWord (s : State) (i : Fin 64) : OneSlotWord s (s.adpcmKeyOn i) i := by
  obtain ⟨d, hd⟩ := adpcmKeyOn_eq s i
  rw [hd]
  split
  · exact .inr ⟨0x0C, 0xFFFF, by decide, rfl⟩
  · exact .inl rfl

theorem keyOn_oneSlotWord (s : State) (i : Fin 64) : OneSlotWord s (s.keyOn i) i := by
  unfold State.keyOn
  dsimp only
  split
  · exact adpcmKeyOn_oneSlotWord (s.setSlot i (s.keyOnSlot i s.slots[i])) i
  · exact .inl rfl

/-- A slot's turn in the key scan writes one word of the slot at most: LEA or the control word (R131, R132). -/
theorem scanSlot_oneSlotWord (s : State) (i : Fin 64) : OneSlotWord s (s.scanSlot i) i := by
  unfold State.scanSlot
  split
  · split
    · exact keyOn_oneSlotWord (s.setSlot i { s.slots[i] with lpend := false }) i
    · exact .inl rfl
  · exact .inr ⟨0x00, _, by decide, rfl⟩

theorem keyScan_regs_wf {s : State} (h : RegFile.wf s.regs = true) : RegFile.wf s.keyScan.regs = true :=
  List.foldlRecOn (motive := fun t => RegFile.wf t.regs = true) _ State.scanSlot h
    fun t ht i _ => oneSlotWord_wf (scanSlot_oneSlotWord t i) ht

/-! ### One slot in the key scan -/

theorem agreeOn_trans {s t u : State} {i : Fin 64} (h : s.agreeOn t i) (g : t.agreeOn u i) : s.agreeOn u i := by
  obtain ⟨hslot, hwords, hparams, hram, hnoise⟩ := h
  obtain ⟨gslot, gwords, gparams, gram, gnoise⟩ := g
  exact ⟨gslot.trans hslot, fun o ho => (gwords o ho).trans (hwords o ho), gparams.trans hparams,
    fun a => (gram a).trans (hram a), gnoise.trans hnoise⟩

/-- The turns of other slots leave all that a slot shows. -/
theorem foldl_scanSlot_agreeOn (s : State) {l : List (Fin 64)} {i : Fin 64} (hi : i ∉ l) :
    s.agreeOn (l.foldl State.scanSlot s) i :=
  List.foldlRecOn (motive := fun t => s.agreeOn t i) l State.scanSlot (agreeOn_refl s i) fun t ht j hj => by
    have hij : i ≠ j := fun e => hi (e ▸ hj)
    refine agreeOn_trans ht (agreeOn_of_scanFrame (t.scanSlot_frame j) (t.scanSlot_slot_ne hij) fun o ho => ?_)
    exact oneSlotWord_reg (scanSlot_oneSlotWord t j) hij ho

/-- The key scan does to a slot what the slot's own turn does, in a state that shows the same of the slot. -/
theorem keyScan_slot (s : State) (i : Fin 64) :
    ∃ t, s.agreeOn t i ∧ s.keyScan.slots[i] = (t.scanSlot i).slots[i] := by
  obtain ⟨before, after, hsplit⟩ := List.append_of_mem (List.mem_finRange i)
  have hnodup := List.nodup_finRange 64
  rw [hsplit, List.nodup_middle, List.nodup_cons, List.mem_append, not_or] at hnodup
  obtain ⟨⟨hbefore, hafter⟩, -⟩ := hnodup
  refine ⟨before.foldl State.scanSlot s, foldl_scanSlot_agreeOn s hbefore, ?_⟩
  rw [State.keyScan, hsplit, List.foldl_append, List.foldl_cons]
  exact (foldl_scanSlot_agreeOn _ hafter).1

theorem kyonb_congr {s t : State} {i : Fin 64} (h : s.agreeOn t i) : t.kyonb i = s.kyonb i :=
  congrArg (BitVec.getLsbD · 14) (agreeOn_sr h (o := 0x00) (by decide))

/-- A slot that key-on has just started: it plays from its first sample, in ATTACK (R130). -/
structure JustStarted (x : Slot) : Prop where
  active : x.active = true
  attack : x.eg.state = .attack
  atStart : x.curAddr = 0

theorem keyOnSlot_justStarted (s : State) (i : Fin 64) (x : Slot) : JustStarted (s.keyOnSlot i x) := ⟨rfl, rfl, rfl⟩

theorem keyOn_justStarted (s : State) (i : Fin 64) : JustStarted (s.keyOn i).slots[i] := by
  have hslot := State.setSlot_slot_self s i (s.keyOnSlot i s.slots[i])
  have hstarted := keyOnSlot_justStarted s i s.slots[i]
  unfold State.keyOn
  dsimp only
  split
  · obtain ⟨d, hd⟩ := adpcmKeyOn_eq (s.setSlot i (s.keyOnSlot i s.slots[i])) i
    have hdecoder : ((s.setSlot i (s.keyOnSlot i s.slots[i])).adpcmKeyOn i).slots[i] =
        { s.keyOnSlot i s.slots[i] with ad := keyOnDecoder (s.setSlot i (s.keyOnSlot i s.slots[i])) i } := by
      rw [hd, hslot]
      split
      · exact State.setSlot_slot_self _ i _
      · exact State.setSlot_slot_self _ i _
    rw [hdecoder]
    exact { hstarted with }
  · rwa [hslot]

/-- The key scan starts a slot in RELEASE whose KYONB is 1 (R125). -/
theorem keyScan_starts {s : State} {i : Fin 64} (hkyonb : s.kyonb i = true) (hrelease : s.slots[i].eg.state = .release) :
    JustStarted s.keyScan.slots[i] := by
  obtain ⟨t, hagree, hscan⟩ := keyScan_slot s i
  rw [hscan, State.scanSlot, kyonb_congr hagree, if_pos hkyonb, hagree.1, if_pos hrelease]
  exact keyOn_justStarted _ i

/-- The key scan leaves a slot alone whose KYONB is 1 and that is not in RELEASE (R125). -/
theorem keyScan_keeps {s : State} {i : Fin 64} (hkyonb : s.kyonb i = true) (hplaying : s.slots[i].eg.state ≠ .release) :
    s.keyScan.slots[i] = s.slots[i] := by
  obtain ⟨t, hagree, hscan⟩ := keyScan_slot s i
  rw [hscan, State.scanSlot, kyonb_congr hagree, if_pos hkyonb, hagree.1, if_neg hplaying, hagree.1]

/-- The key scan sends a slot whose KYONB is 0 to RELEASE and keeps the rest of it (R125, R132). -/
theorem keyScan_releases {s : State} {i : Fin 64} (hkyonb : s.kyonb i = false) :
    s.keyScan.slots[i] = { s.slots[i] with eg := { s.slots[i].eg with state := .release } } := by
  obtain ⟨t, hagree, hscan⟩ := keyScan_slot s i
  rw [hscan, State.scanSlot, kyonb_congr hagree, if_neg (Bool.eq_false_iff.mp hkyonb), ← hagree.1]
  exact State.setSlot_slot_self t i _

/-! ### KEYON and KEYOFF -/

/-- A full-word write of slot `i`'s word 0x00 with KYONEX set: the slots are as the key scan leaves them (R125). -/
theorem runOps_controlWrite {s : State} (i : Fin 64) {v : Word} (hwf : RegFile.wf s.regs = true)
    (hkyonex : v.getLsbD 15 = true) :
    ∃ t, runOps [asmW16 (slotOffset i 0x00) v] s = .next t ∧ RegFile.wf t.regs = true ∧
      t.slots = (s.setReg (slotReg i 0x00) v).keyScan.slots := by
  have hasm : asmW16 (slotOffset i 0x00) v = .w16SlotCtrl i v 0xFFFF := decodeWrite_slotOffset (o := 0x00) rfl
  have hstore : s.store (slotReg i 0x00) v 0xFFFF = s.setReg (slotReg i 0x00) v := by rw [State.store, merge_full]
  have hword : (s.setReg (slotReg i 0x00) v).kyonex i = true := by
    rw [State.kyonex, State.sr, State.setReg_reg_self s _ v hwf, hkyonex]
  have hexec : exec (.w16SlotCtrl i v 0xFFFF) s = .next (((s.setReg (slotReg i 0x00) v).keyExecute i).ret .none) := by
    rw [← hstore]
    exact congrArg Host.Outcome.next (State.hostWrite_ok s _ rfl)
  refine ⟨((s.setReg (slotReg i 0x00) v).keyExecute i).ret .none, ?_, ?_, ?_⟩
  · rw [hasm, runOps, hexec]
    rfl
  · rw [State.ret_regs, State.keyExecute, if_pos hword]
    exact State.setReg_regs_wf _ _ _ (keyScan_regs_wf (State.setReg_regs_wf s _ v hwf))
  · rw [State.ret_slots, State.keyExecute, if_pos hword]
    rfl

theorem setReg_kyonb {s : State} (i : Fin 64) (v : Word) (hwf : RegFile.wf s.regs = true) :
    (s.setReg (slotReg i 0x00) v).kyonb i = v.getLsbD 14 := by
  rw [State.kyonb, State.sr, State.setReg_reg_self s _ v hwf]

/-- KEYON starts a slot in RELEASE (R93, R144 (a)). -/
theorem pseudoKeyon_starts {s : State} (i : Fin 64) (hwf : RegFile.wf s.regs = true)
    (hrelease : s.slots[i].eg.state = .release) :
    ∃ t, runOps (s.pseudoKeyon i) s = .next t ∧ JustStarted t.slots[i] := by
  obtain ⟨t, hrun, -, hslots⟩ := runOps_controlWrite i (v := s.sr i 0x00 ||| 0xC000) hwf (by simp)
  refine ⟨t, hrun, ?_⟩
  rw [hslots]
  exact keyScan_starts (by rw [setReg_kyonb i _ hwf]; simp) hrelease

/-- KEYON leaves a slot alone that is not in RELEASE (R93, R144 (b)). -/
theorem pseudoKeyon_keeps {s : State} (i : Fin 64) (hwf : RegFile.wf s.regs = true)
    (hplaying : s.slots[i].eg.state ≠ .release) :
    ∃ t, runOps (s.pseudoKeyon i) s = .next t ∧ t.slots[i] = s.slots[i] := by
  obtain ⟨t, hrun, -, hslots⟩ := runOps_controlWrite i (v := s.sr i 0x00 ||| 0xC000) hwf (by simp)
  refine ⟨t, hrun, ?_⟩
  rw [hslots]
  exact keyScan_keeps (by rw [setReg_kyonb i _ hwf]; simp) hplaying

/-- KEYOFF sends a slot to RELEASE and keeps the rest of it (R93, R132). -/
theorem pseudoKeyoff_releases {s : State} (i : Fin 64) (hwf : RegFile.wf s.regs = true) :
    ∃ t, runOps (s.pseudoKeyoff i) s = .next t ∧ RegFile.wf t.regs = true ∧
      t.slots[i] = { s.slots[i] with eg := { s.slots[i].eg with state := .release } } := by
  obtain ⟨t, hrun, ht, hslots⟩ :=
    runOps_controlWrite i (v := (s.sr i 0x00 &&& ~~~ 0x4000) ||| 0x8000) hwf (by simp)
  refine ⟨t, hrun, ht, ?_⟩
  rw [hslots]
  exact keyScan_releases (by rw [setReg_kyonb i _ hwf]; simp)

/-- Settles O25: the key scan of each pseudo-operation at the slot it names. -/
theorem keyonRestart : Obligations.KeyonRestart := by
  intro i s hwf
  refine ⟨fun hrelease => ?_, pseudoKeyon_keeps i hwf, ?_⟩
  · obtain ⟨t, hrun, hstarted⟩ := pseudoKeyon_starts i hwf hrelease
    exact ⟨t, hrun, hstarted.active, hstarted.attack, hstarted.atStart⟩
  · obtain ⟨t, hoff, ht, hslot⟩ := pseudoKeyoff_releases i hwf
    obtain ⟨u, hon, hstarted⟩ := pseudoKeyon_starts (s := t) i ht (by rw [hslot])
    exact ⟨t, u, hoff, by rw [hslot], by rw [hslot], hon, hstarted.active, hstarted.attack⟩

end Sys2Proof.Proofs
end

section
/-! Host reads of stored words (R121 to R124), and what a host write stores (R66, R120, R126 to R129, R136 to R143). -/

namespace Sys2Proof.Proofs

open Sys2Proof Sys2Proof.Machine

/-- Settles O10: the four stored reads. -/
theorem storedReads : Obligations.StoredReads := by
  intro a s
  exact ⟨rfl, rfl, rfl, rfl⟩

/-! ### The byte enable -/

theorem maskAdmitted_iff (m : Word) : maskAdmitted m = true ↔ m = 0xFFFF ∨ m = 0x00FF ∨ m = 0xFF00 := by
  simp [maskAdmitted]

theorem hostWrite_admitted (s : State) {m : Word} (effect : State → State) (hm : maskAdmitted m = true) :
    s.hostWrite m effect = (effect s).ret .none :=
  State.hostWrite_ok s effect ((byteEnableOk_iff m).mpr ((maskAdmitted_iff m).mp hm))

/-- Bit `k` of the word a host write leaves: bit 15 of the mask enables the high byte, bit 0 the low byte (R66). -/
theorem mergedWord_getLsbD (old v m : Word) {k : Nat} (hk : k < 16) :
    (mergedWord old v m).getLsbD k =
      if m.getLsbD (if k < 8 then 0 else 15) then v.getLsbD k else old.getLsbD k := by
  unfold mergedWord
  rw [BitVec.getLsbD_append]
  by_cases hlow : k < 8
  · simp only [hlow, if_true, apply_ite (BitVec.getLsbD · k)]
    simp [hlow]
  · have hhigh : k - 8 < 8 := by omega
    have hback : 8 + (k - 8) = k := by omega
    simp only [hlow, if_false, apply_ite (BitVec.getLsbD · (k - 8))]
    simp [hhigh, hback]

/-- An admitted mask enables whole bytes (R66). -/
theorem maskAdmitted_getLsbD {m : Word} (hm : maskAdmitted m = true) {k : Nat} (hk : k < 16) :
    m.getLsbD k = m.getLsbD (if k < 8 then 0 else 15) := by
  rcases (maskAdmitted_iff m).mp hm with rfl | rfl | rfl
  all_goals
    revert k
    decide

/-- Under an admitted mask the byte-enabled write is the merge of whole bytes (R66). -/
theorem merge_eq_mergedWord (old v : Word) {m : Word} (hm : maskAdmitted m = true) : merge old v m = mergedWord old v m := by
  refine BitVec.eq_of_getLsbD_eq fun k hk => ?_
  rw [merge_getLsbD, mergedWord_getLsbD old v m hk, maskAdmitted_getLsbD hm hk]

/-! ### The stored word -/

/-- What a host write of the word at `a` does to the register words and to wave RAM (R120, R66). -/
def StoresWord (s t : State) (a : Nat) (v m : Word) : Prop :=
  t.reg a = mergedWord (s.reg a) v m ∧ s.sameRegsBut t [a] ∧ s.sameRam t

theorem storesWord_of_store {s t : State} {a : Nat} {v m : Word} (hm : maskAdmitted m = true)
    (hwf : RegFile.wf s.regs = true) (hregs : t.regs = (s.store a v m).regs) (hram : t.ram = s.ram) :
    StoresWord s t a v m := by
  have hreg : ∀ b, t.reg b = (s.store a v m).reg b := fun b => congrArg (cellsRead · b) hregs
  refine ⟨?_, fun b hb => ?_, fun b => congrArg (cellsRead · b) hram⟩
  · rw [hreg, State.store_reg_self s a v m hwf, merge_eq_mergedWord _ v hm]
  · rw [hreg, State.store_reg_ne s v m (List.ne_of_not_mem_cons hb)]

/-- Every plain storage operation is the plain store of its word (R126 to R129, R136 to R143). -/
theorem exec_storageWrite {i : Instr} {a : Nat} {v m : Word} (s : State) (h : storageWrite i = some (a, v, m)) :
    exec i s = .next (s.storeWrite a v m) := by
  unfold storageWrite at h
  split at h <;> cases h <;> rfl

/-- Settles O12: the plain store of the operation's word. -/
theorem storageWrites : Obligations.StorageWrites := by
  intro i a v m s hi hm hwf
  have hexec : exec i s = .next ((s.store a v m).ret .none) := by
    rw [exec_storageWrite s hi, State.storeWrite, hostWrite_admitted s _ hm]
  exact ⟨_, hexec, rfl, storesWord_of_store hm hwf rfl rfl⟩

end Sys2Proof.Proofs
end

section
/-! The writes of slot words 0x14, 0x18 and 0x1C: what they latch (R133, R134, R135). -/

namespace Sys2Proof.Proofs

open Sys2Proof Sys2Proof.Machine

/-- Slot word `o` after its store (R120, R66). -/
theorem store_sr_self (s : State) (i : Fin 64) (o : Nat) (v : Word) {m : Word} (hm : maskAdmitted m = true)
    (hwf : RegFile.wf s.regs = true) :
    (s.store (slotReg i o) v m).sr i o = mergedWord (s.reg (i.val * 0x80 + o)) v m := by
  rw [State.sr, State.store_reg_self s _ v m hwf, merge_eq_mergedWord _ v hm]
  rfl

/-! ### The latched values as functions of the words -/

theorem rr_eq (s : State) (i : Fin 64) : s.rr i = (s.sr i 0x14).toNat % 32 := by simp [State.rr, bits]

theorem alfos_eq (s : State) (i : Fin 64) : s.alfos i = (s.sr i 0x1C).toNat % 8 := by simp [State.alfos, bits]

/-- The release step that a write latches takes no key-rate scaling (R133). -/
theorem writtenRr_eq (s : State) (i : Fin 64) : s.writtenRr i = s.params.drEntry (2 * ((s.sr i 0x14).toNat % 32)) := by
  have hindex : rateIndex 0 (s.rr i) = 2 * s.rr i := by
    have hlt : s.rr i < 32 := Nat.mod_lt _ (by decide)
    unfold rateIndex clamp
    omega
  rw [State.writtenRr, hindex, rr_eq]

theorem dlThreshold_eq (s : State) (i : Fin 64) :
    s.dlThreshold i = BitVec.ofNat 5 (0x1F - (s.sr i 0x14).toNat / 32 % 32) := rfl

/-- The exponent of a pitch word is OCT + 8, for OCT as a two's-complement field (R87, R180). -/
theorem sext4_add_eight (n : Nat) (h : n < 16) : sext4 n + 8 = ((n + 8) % 16 : Nat) := by
  unfold sext4
  split <;> omega

/-- The pitch step is that of word 0x18: shifting left by OCT + 2, or right where that is negative, is shifting left by
OCT + 8 and then right by 6 (R180). -/
theorem pitchStep_eq (s : State) (i : Fin 64) : s.pitchStep i = BitVec.ofNat 32 (pitchOf (s.sr i 0x18)) := by
  have hfns : s.fns i + 0x400 = 1024 + (s.sr i 0x18).toNat % 1024 := by simp [State.fns, bits]; omega
  have hoct : s.oct i + 8 = (((s.sr i 0x18).toNat / 2048 + 8) % 16 : Nat) := by
    have hfield : bits (s.sr i 0x18) 14 11 = (s.sr i 0x18).toNat / 2048 % 16 := rfl
    rw [State.oct, hfield, sext4_add_eight _ (Nat.mod_lt _ (by decide)), Nat.mod_add_mod]
  unfold State.pitchStep pitchOf
  dsimp only
  rw [hfns]
  generalize 1024 + (s.sr i 0x18).toNat % 1024 = fn
  generalize ((s.sr i 0x18).toNat / 2048 + 8) % 16 = k at hoct
  congr 1
  split
  · have hk : k = (s.oct i + 2).toNat + 6 := by omega
    rw [hk, pow_add, ← mul_assoc]
    exact (Nat.mul_div_cancel _ (by decide)).symm
  · have hk : 2 ^ (-(s.oct i + 2)).toNat * 2 ^ k = 64 := by
      rw [← pow_add, show (-(s.oct i + 2)).toNat + k = 6 by omega]
      rfl
    rw [← hk, Nat.mul_div_mul_right _ _ (Nat.two_pow_pos k)]

/-- A pitch step lies between 2^4 and 2047 * 2^9 (R180). -/
theorem pitchOf_bounds (w : Word) : 0x10 ≤ pitchOf w ∧ pitchOf w ≤ 0xFFE00 := by
  have hlo : 2 ^ 0 ≤ 2 ^ ((w.toNat / 2048 + 8) % 16) := Nat.pow_le_pow_right (by decide) (Nat.zero_le _)
  have hhi : 2 ^ ((w.toNat / 2048 + 8) % 16) ≤ 2 ^ 15 := Nat.pow_le_pow_right (by decide) (by omega)
  have hfn : w.toNat % 1024 < 1024 := Nat.mod_lt _ (by decide)
  have hmin := Nat.mul_le_mul (show 1024 ≤ 1024 + w.toNat % 1024 by omega) hlo
  have hmax := Nat.mul_le_mul (show 1024 + w.toNat % 1024 ≤ 2047 by omega) hhi
  unfold pitchOf
  omega

theorem pitchStep_toNat (s : State) (i : Fin 64) : (s.pitchStep i).toNat = pitchOf (s.sr i 0x18) := by
  have hbounds := pitchOf_bounds (s.sr i 0x18)
  rw [pitchStep_eq, BitVec.toNat_ofNat]
  omega

/-- `ComputeLFO` latches both LFOs from word 0x1C (R225). -/
theorem computeLfo_word (s : State) (i : Fin 64) (x : Slot) :
    s.computeLfo i x =
      let w := (s.sr i 0x1C).toNat
      { x with
        plfo := latchedLfo s.params x.plfo (w / 1024 % 32) (w / 256 % 4) (w / 32 % 8)
        alfo := latchedLfo s.params x.alfo (w / 1024 % 32) (w / 8 % 4) (w % 8) } := by
  rw [computeLfo_eq, alfos_eq]
  rfl

/-! ### The statements -/

/-- Settles O13: the store of word 0x14, then the release step and the threshold of the word stored. -/
theorem egrelWrite : Obligations.EgrelWrite := by
  intro i v m s hm hwf a w
  have hexec : exec (.w16SlotEgrel i v m) s = .next (((s.store (slotReg i 0x14) v m).latchRelease i).ret .none) :=
    congrArg _ (hostWrite_admitted s _ hm)
  obtain ⟨hword, hregs, hram⟩ := storesWord_of_store (a := slotReg i 0x14)
    (t := ((s.store (slotReg i 0x14) v m).latchRelease i).ret .none) hm hwf rfl rfl
  refine ⟨_, hexec, rfl, hword, hregs, fun j => State.setSlot_slot_ne _ _, hram, ?_⟩
  have hlatched := State.setSlot_slot_self (s.store (slotReg i 0x14) v m) i
  rw [State.ret_slots, State.latchRelease, hlatched, writtenRr_eq, dlThreshold_eq, store_sr_self s i 0x14 v hm hwf]
  rfl

/-- Settles O14: the store of word 0x18, then the pitch step of the word stored. -/
theorem pitchWrite : Obligations.PitchWrite := by
  intro i v m s hm hwf a w
  have hexec : exec (.w16SlotPitch i v m) s = .next (((s.store (slotReg i 0x18) v m).latchPitch i).ret .none) :=
    congrArg _ (hostWrite_admitted s _ hm)
  obtain ⟨hword, hregs, hram⟩ := storesWord_of_store (a := slotReg i 0x18)
    (t := ((s.store (slotReg i 0x18) v m).latchPitch i).ret .none) hm hwf rfl rfl
  have hlatched : (((s.store (slotReg i 0x18) v m).latchPitch i).ret .none).slots[i] =
      { s.slots[i] with step := (s.store (slotReg i 0x18) v m).pitchStep i } := State.setSlot_slot_self _ i _
  refine ⟨_, hexec, rfl, hword, hregs, fun j => State.setSlot_slot_ne _ _, hram, ?_, ?_, pitchOf_bounds w⟩
  · rw [hlatched]
  · rw [hlatched, pitchStep_toNat, store_sr_self s i 0x18 v hm hwf]

/-- Settles O15: the store of word 0x1C, then the LFOs of the word stored. -/
theorem lfoWrite : Obligations.LfoWrite := by
  intro i v m s hm hwf a w f
  have hexec : exec (.w16SlotLfo i v m) s = .next (((s.store (slotReg i 0x1C) v m).latchLfo i).ret .none) :=
    congrArg _ (hostWrite_admitted s _ hm)
  obtain ⟨hword, hregs, hram⟩ := storesWord_of_store (a := slotReg i 0x1C)
    (t := ((s.store (slotReg i 0x1C) v m).latchLfo i).ret .none) hm hwf rfl rfl
  refine ⟨_, hexec, rfl, hword, hregs, fun j => State.setSlot_slot_ne _ _, hram, ?_⟩
  have hlatched := State.setSlot_slot_self (s.store (slotReg i 0x1C) v m) i
  rw [State.ret_slots, State.latchLfo, hlatched, computeLfo_word, store_sr_self s i 0x1C v hm hwf]
  rfl

end Sys2Proof.Proofs
end

section
/-! The key-on walk of the ADPCM decoder (R131), and what key-on makes of a slot and of its words (R125, R130 to R132). -/

namespace Sys2Proof.Proofs

open Sys2Proof Sys2Proof.Machine

/-! ### The walk -/

theorem decoded_cons (s : State) (start first count : Nat) (p : Predictor) :
    s.decoded start first (count + 1) p =
      s.decoded start (first + 1) count (adpcmStep s.params p (s.nibbleOf start first)) := by
  unfold State.decoded
  rw [List.range_succ_eq_map, List.foldl_cons, List.foldl_map]
  simp only [Nat.add_zero, Nat.succ_eq_add_one, Nat.add_assoc, Nat.add_comm 1]

theorem nibble_draws {s : State} {base : Nat} (n d : Nat) (h : s.inRam base) : (s.nibble base n d).2 = d := by
  rw [State.nibble, State.memByte_inRam s d h]

/-- The walk of R131 decodes the stream and draws nothing, where its bytes lie below `RAM_SIZE`. -/
theorem keyOnWalk_inRam {s : State} {start fuel n base : Nat} (p : Predictor) (d : Nat)
    (hbase : base % 0x800000 = (start + n / 2) % 0x800000) (hram : s.streamInRam start n fuel) :
    s.keyOnWalk fuel n base p d = (s.decoded start n fuel p, d) := by
  induction fuel generalizing n base p with
  | zero => rfl
  | succ fuel ih =>
    have hfirst : s.inRam (start + n / 2) := hram 0 (Nat.succ_pos fuel)
    have hbyte : s.inRam base := by
      unfold State.inRam at *
      rwa [hbase]
    have hrest : s.streamInRam start (n + 1) fuel := fun k hk => by
      have hindex : n + 1 + k = n + (k + 1) := by omega
      rw [hindex]
      exact hram (k + 1) (Nat.succ_lt_succ hk)
    have hnext : (if (n + 1) % 2 = 0 then base + 1 else base) % 0x800000 = (start + (n + 1) / 2) % 0x800000 := by
      split <;> omega
    rw [State.keyOnWalk, nibble_draws n d hbyte, nibble_inRam d hbase hfirst, ih _ hnext hrest, decoded_cons]

/-! ### The started decoder -/

/-- SA is a 23-bit value, so that the mask of R131 takes nothing away (R88). -/
theorem streamBase_eq (s : State) (i : Fin 64) : s.streamBase i = s.sa i := by
  have hhigh : bits (s.sr i 0x00) 6 0 < 128 := Nat.mod_lt _ (by decide)
  have hlow := (s.sr i 0x04).isLt
  unfold State.streamBase waveMask State.sa
  omega

/-- The predictor after LSA nibbles of slot `i`'s stream (R131). -/
def loopCache (s : State) (i : Fin 64) : Predictor := s.decoded (s.sa i) 0 (s.lsa i) Predictor.init

theorem keyOnWalk_loopCache {s : State} {i : Fin 64} (d : Nat) (hram : s.streamInRam (s.sa i) 0 (s.lsa i)) :
    s.keyOnWalk (s.lsa i) 0 (s.sa i) Predictor.init d = (loopCache s i, d) :=
  keyOnWalk_inRam Predictor.init d (by omega) hram

/-- The decoder at nibble 0 of slot `i`'s stream, with the loop cache `cache` (R131). -/
def initDecoder (s : State) (i : Fin 64) (cache : Predictor) : Adpcm :=
  { sample := 0
    quant := 0x7F
    step := 0
    base := BitVec.ofNat 32 (s.sa i)
    lpSample := cache.sample
    lpQuant := cache.quant }

/-- The loop cache that a walk from slot `i`'s words leaves, from the draw counter of `s`. -/
theorem keyOnDecoder_cache (s : State) (i : Fin 64) :
    ∃ cache, keyOnDecoder s i = initDecoder s i cache ∧
      (s.streamInRam (s.sa i) 0 (s.lsa i) → cache = loopCache s i) := by
  refine ⟨(s.keyOnWalk (s.lsa i) 0 (s.sa i) Predictor.init s.draws).1, ?_, fun hram => ?_⟩
  · rw [keyOnDecoder, streamBase_eq]
    rfl
  · rw [keyOnWalk_loopCache _ hram]

theorem adpcmKeyOn_slot (s : State) (i : Fin 64) :
    (s.adpcmKeyOn i).slots[i] = { s.slots[i] with ad := keyOnDecoder s i } := by
  obtain ⟨d, hd⟩ := adpcmKeyOn_eq s i
  rw [hd]
  split
  · exact State.setSlot_slot_self s i _
  · exact State.setSlot_slot_self s i _

theorem adpcmKeyOn_regs (s : State) (i : Fin 64) :
    (s.adpcmKeyOn i).regs = if s.lea i < s.lsa i then (s.setReg (slotReg i 0x0C) 0xFFFF).regs else s.regs := by
  obtain ⟨d, hd⟩ := adpcmKeyOn_eq s i
  rw [hd]
  split <;> rfl

theorem adpcmKeyOn_draws {s : State} {i : Fin 64} (hram : s.streamInRam (s.sa i) 0 (s.lsa i)) :
    (s.adpcmKeyOn i).draws = s.draws := by
  have hwalk : (s.adpcmKeyOn i).draws = (s.keyOnWalk (s.lsa i) 0 (s.streamBase i) Predictor.init s.draws).2 := by
    unfold State.adpcmKeyOn
    dsimp only
    split <;> rfl
  rw [hwalk, streamBase_eq, keyOnWalk_loopCache _ hram]

/-! ### Key-on -/

/-- The decoder of a started slot: initialised for ADPCM (R131), as it was for PCM (R130). -/
def startedDecoder (s : State) (i : Fin 64) (cache : Predictor) : Adpcm :=
  if 2 ≤ s.pcms i then initDecoder s i cache else s.slots[i].ad

/-- Slot `i` as the key scan starts it (R125, R130, R131). -/
def startedSlot (s : State) (i : Fin 64) (cache : Predictor) : Slot :=
  { s.keyOnSlot i s.slots[i] with lpend := false, ad := startedDecoder s i cache }

/-- What a started slot latches from its words 0x18 and 0x1C, and where it plays from (R130, R180, R225). -/
theorem startedSlot_eq (s : State) (i : Fin 64) (cache : Predictor) :
    startedSlot s i cache =
      let w := (s.sr i 0x1C).toNat
      { active := true
        lpend := false
        curAddr := 0
        nxtAddr := 0x1000
        prvAddr := 0xFFFFFFFF
        step := BitVec.ofNat 32 (pitchOf (s.sr i 0x18))
        eg := { s.computeEg i s.slots[i].eg with state := .attack }
        ad := startedDecoder s i cache
        plfo := latchedLfo s.params s.slots[i].plfo (w / 1024 % 32) (w / 256 % 4) (w / 32 % 8)
        alfo := latchedLfo s.params s.slots[i].alfo (w / 1024 % 32) (w / 8 % 4) (w % 8) } := by
  rw [startedSlot, State.keyOnSlot, computeLfo_word, pitchStep_eq]
  rfl

theorem keyOn_adpcm {s : State} {i : Fin 64} (h : 2 ≤ s.pcms i) :
    s.keyOn i = (s.setSlot i (s.keyOnSlot i s.slots[i])).adpcmKeyOn i := if_pos h

theorem keyOn_pcm {s : State} {i : Fin 64} (h : ¬2 ≤ s.pcms i) :
    s.keyOn i = s.setSlot i (s.keyOnSlot i s.slots[i]) := if_neg h

/-- A slot after key-on, with the loop cache and the draws of a walk that stays below `RAM_SIZE` (R130, R131). -/
theorem keyOn_slot (s : State) (i : Fin 64) :
    ∃ cache, (s.keyOn i).slots[i] = { s.keyOnSlot i s.slots[i] with ad := startedDecoder s i cache } ∧
      ((2 ≤ s.pcms i → s.streamInRam (s.sa i) 0 (s.lsa i)) → cache = loopCache s i ∧ (s.keyOn i).draws = s.draws) := by
  by_cases hpcms : 2 ≤ s.pcms i
  · obtain ⟨cache, hdecoder, hcache⟩ := keyOnDecoder_cache (s.setSlot i (s.keyOnSlot i s.slots[i])) i
    rw [keyOn_adpcm hpcms]
    refine ⟨cache, ?_, fun hram => ⟨hcache (hram hpcms), adpcmKeyOn_draws (hram hpcms)⟩⟩
    rw [adpcmKeyOn_slot, State.setSlot_slot_self, hdecoder, startedDecoder, if_pos hpcms]
    rfl
  · rw [keyOn_pcm hpcms]
    refine ⟨loopCache s i, ?_, fun _ => ⟨rfl, rfl⟩⟩
    rw [State.setSlot_slot_self, startedDecoder, if_neg hpcms]
    rfl

/-- Key-on of a slot whose `lpend` the scan has cleared starts it (R125). -/
theorem keyOn_started (s : State) (i : Fin 64) :
    ∃ cache, ((s.setSlot i { s.slots[i] with lpend := false }).keyOn i).slots[i] = startedSlot s i cache ∧
      ((2 ≤ s.pcms i → s.streamInRam (s.sa i) 0 (s.lsa i)) → cache = loopCache s i ∧
        ((s.setSlot i { s.slots[i] with lpend := false }).keyOn i).draws = s.draws) := by
  obtain ⟨cache, hslot, hram⟩ := keyOn_slot (s.setSlot i { s.slots[i] with lpend := false }) i
  refine ⟨cache, ?_, hram⟩
  rw [hslot, startedDecoder, State.setSlot_slot_self]
  rfl

/-- Key-on writes no register word but the loop-disable sentinel of an ADPCM slot with LSA above LEA (R131). -/
theorem keyOn_regs (s : State) (i : Fin 64) :
    (s.keyOn i).regs =
      if 2 ≤ s.pcms i ∧ s.lea i < s.lsa i then (s.setReg (slotReg i 0x0C) 0xFFFF).regs else s.regs := by
  by_cases hpcms : 2 ≤ s.pcms i
  · rw [keyOn_adpcm hpcms, adpcmKeyOn_regs]
    simp only [hpcms, true_and]
    rfl
  · rw [keyOn_pcm hpcms, if_neg fun h => hpcms h.1]
    rfl

end Sys2Proof.Proofs
end

section
/-! The key scan (R125): what it makes of every slot, of every register word and of the draw counter, whatever the order of
its visits (R145). -/

namespace Sys2Proof.Proofs

open Sys2Proof Sys2Proof.Machine

/-! ### A slot's turn -/

/-- The key scan starts slot `i`: its KYONB is 1 and its EG is in RELEASE (R125). -/
def ScanStarts (s : State) (i : Fin 64) : Prop := s.kyonb i = true ∧ s.slots[i].eg.state = .release

/-- The key scan writes the loop-disable sentinel: it starts slot `i` as ADPCM with LSA above LEA (R131). -/
def DisablesLoop (s : State) (i : Fin 64) : Prop := ScanStarts s i ∧ 2 ≤ s.pcms i ∧ s.lea i < s.lsa i

/-- Slot `i` after its turn in the scan (R125, R130, R132). -/
def scannedSlot (s : State) (i : Fin 64) (cache : Predictor) : Slot :=
  if s.kyonb i then
    if s.slots[i].eg.state = .release then startedSlot s i cache else s.slots[i]
  else { s.slots[i] with eg := { s.slots[i].eg with state := .release } }

theorem scannedSlot_starts {s : State} {i : Fin 64} (cache : Predictor) (h : ScanStarts s i) :
    scannedSlot s i cache = startedSlot s i cache := by
  rw [scannedSlot, if_pos h.1, if_pos h.2]

/-- A turn in the scan, with the loop cache and the draws of a walk that stays below `RAM_SIZE`. -/
theorem scanSlot_slot (s : State) (i : Fin 64) :
    ∃ cache, (s.scanSlot i).slots[i] = scannedSlot s i cache ∧
      (s.keyOnInRam i → cache = loopCache s i ∧ (s.scanSlot i).draws = s.draws) := by
  unfold State.scanSlot scannedSlot
  by_cases hkyonb : s.kyonb i = true
  · rw [if_pos hkyonb]
    by_cases hrelease : s.slots[i].eg.state = .release
    · obtain ⟨cache, hslot, hram⟩ := keyOn_started s i
      refine ⟨cache, ?_, fun h => ?_⟩
      · rw [if_pos hrelease, hslot, if_pos hkyonb, if_pos hrelease]
      · rw [if_pos hrelease]
        exact hram (h hkyonb hrelease)
    · refine ⟨loopCache s i, ?_, fun _ => ⟨rfl, ?_⟩⟩
      · rw [if_neg hrelease, if_pos hkyonb, if_neg hrelease]
      · rw [if_neg hrelease]
  · refine ⟨loopCache s i, ?_, fun _ => ⟨rfl, ?_⟩⟩
    · rw [if_neg hkyonb, if_neg hkyonb]
      exact State.setSlot_slot_self s i _
    · rw [if_neg hkyonb]
      rfl

/-- Key-off clears a KYONB that is 0 already: it writes no register word (R125, R132). -/
theorem keyOff_regs {s : State} {i : Fin 64} (hkyonb : s.kyonb i = false) (hwf : RegFile.wf s.regs = true) :
    (s.keyOff i).regs = s.regs := by
  have hword : s.sr i 0x00 &&& ~~~ 0x4000 = s.sr i 0x00 := by
    refine BitVec.eq_of_getLsbD_eq fun k hk => ?_
    have hmask : (~~~ 0x4000 : Word).getLsbD k = !decide (k = 14) := by
      revert k
      decide
    rw [BitVec.getLsbD_and, hmask]
    by_cases hk14 : k = 14
    · subst hk14
      exact (Bool.and_false _).trans hkyonb.symm
    · simp [hk14]
  unfold State.keyOff
  dsimp only
  rw [hword]
  exact (congrArg State.regs (State.setReg_reg (s.setSlot i _) (slotReg i 0x00) hwf)).trans rfl

/-- A turn writes the loop-disable sentinel where R131 says so, and no register word else. -/
theorem scanSlot_regs {s : State} {i : Fin 64} (hwf : RegFile.wf s.regs = true) :
    (DisablesLoop s i → (s.scanSlot i).regs = (s.setReg (slotReg i 0x0C) 0xFFFF).regs) ∧
      (¬DisablesLoop s i → (s.scanSlot i).regs = s.regs) := by
  unfold State.scanSlot DisablesLoop ScanStarts
  by_cases hkyonb : s.kyonb i = true
  · rw [if_pos hkyonb]
    by_cases hrelease : s.slots[i].eg.state = .release
    · rw [if_pos hrelease, keyOn_regs]
      exact ⟨fun h => if_pos h.2, fun h => if_neg fun hloop => h ⟨⟨hkyonb, hrelease⟩, hloop⟩⟩
    · rw [if_neg hrelease]
      exact ⟨fun h => absurd h.1.2 hrelease, fun _ => rfl⟩
  · rw [if_neg hkyonb]
    exact ⟨fun h => absurd h.1.1 hkyonb, fun _ => keyOff_regs (Bool.eq_false_iff.mpr hkyonb) hwf⟩

/-! ### States that agree on a slot -/

section
variable {s t : State} {i : Fin 64} (h : s.agreeOn t i)
include h

theorem scanStarts_congr : ScanStarts t i ↔ ScanStarts s i := by
  rw [ScanStarts, ScanStarts, kyonb_congr h, h.1]

theorem disablesLoop_congr : DisablesLoop t i ↔ DisablesLoop s i := by
  rw [DisablesLoop, DisablesLoop, scanStarts_congr h, pcms_congr h, lea_congr h, lsa_congr h]

theorem streamInRam_congr (start first count : Nat) : t.streamInRam start first count ↔ s.streamInRam start first count := by
  unfold State.streamInRam State.inRam
  rw [agreeOn_params h]

theorem keyOnInRam_congr : t.keyOnInRam i ↔ s.keyOnInRam i := by
  rw [State.keyOnInRam, State.keyOnInRam, kyonb_congr h, h.1, pcms_congr h, sa_congr h, lsa_congr h, streamInRam_congr h]

theorem loopCache_congr : loopCache t i = loopCache s i := by
  have hram : t.ramByte = s.ramByte := funext h.2.2.2.1
  simp only [loopCache, State.decoded, State.nibbleOf, hram, agreeOn_params h, sa_congr h, lsa_congr h]

theorem keyRateBase_congr : t.keyRateBase i = s.keyRateBase i := by
  unfold State.keyRateBase State.krs State.oct State.fns
  rw [agreeOn_sr h (o := 0x14) (by decide), agreeOn_sr h (o := 0x18) (by decide)]

theorem computeEg_congr (e : Eg) : t.computeEg i e = s.computeEg i e := by
  unfold State.computeEg State.dlThreshold State.ar State.d1r State.d2r State.rr State.dl State.eghold
  rw [keyRateBase_congr h, agreeOn_params h, agreeOn_sr h (o := 0x10) (by decide),
    agreeOn_sr h (o := 0x14) (by decide)]

theorem startedSlot_congr (cache : Predictor) : startedSlot t i cache = startedSlot s i cache := by
  have h18 := agreeOn_sr h (o := 0x18) (by decide)
  have h1C := agreeOn_sr h (o := 0x1C) (by decide)
  simp only [startedSlot_eq, startedDecoder, initDecoder, computeEg_congr h, pcms_congr h, sa_congr h, agreeOn_params h,
    h.1, h18, h1C]

theorem scannedSlot_congr (cache : Predictor) : scannedSlot t i cache = scannedSlot s i cache := by
  rw [scannedSlot, scannedSlot, kyonb_congr h, startedSlot_congr h, h.1]

end

/-! ### The turns of a list of slots -/

theorem scanSlot_agreeOn (s : State) {i j : Fin 64} (hij : i ≠ j) : s.agreeOn (s.scanSlot j) i :=
  foldl_scanSlot_agreeOn s (l := [j]) (by simpa using hij)

theorem foldl_scanSlot_wf {s : State} (l : List (Fin 64)) (hwf : RegFile.wf s.regs = true) :
    RegFile.wf (l.foldl State.scanSlot s).regs = true :=
  List.foldlRecOn (motive := fun t => RegFile.wf t.regs = true) l State.scanSlot hwf
    fun t ht i _ => oneSlotWord_wf (scanSlot_oneSlotWord t i) ht

/-- Whatever the order of the visits, slot `i` shows what its own turn leaves, from a state that shows the same of it. -/
theorem foldl_scanSlot_turn {s : State} {l : List (Fin 64)} {i : Fin 64} (hwf : RegFile.wf s.regs = true)
    (hl : l.Nodup) (hi : i ∈ l) :
    ∃ t, s.agreeOn t i ∧ RegFile.wf t.regs = true ∧ (t.scanSlot i).agreeOn (l.foldl State.scanSlot s) i := by
  obtain ⟨before, after, hsplit⟩ := List.append_of_mem hi
  rw [hsplit, List.nodup_middle, List.nodup_cons, List.mem_append, not_or] at hl
  obtain ⟨⟨hbefore, hafter⟩, -⟩ := hl
  refine ⟨before.foldl State.scanSlot s, foldl_scanSlot_agreeOn s hbefore, foldl_scanSlot_wf before hwf, ?_⟩
  rw [hsplit, List.foldl_append, List.foldl_cons]
  exact foldl_scanSlot_agreeOn _ hafter

/-- Every slot visited is scanned (R125, R130, R132). -/
theorem foldl_scanSlot_slot {s : State} {l : List (Fin 64)} {i : Fin 64} (hwf : RegFile.wf s.regs = true)
    (hl : l.Nodup) (hi : i ∈ l) :
    ∃ cache, (l.foldl State.scanSlot s).slots[i] = scannedSlot s i cache ∧ (s.keyOnInRam i → cache = loopCache s i) := by
  obtain ⟨t, hagree, -, hturn⟩ := foldl_scanSlot_turn hwf hl hi
  obtain ⟨cache, hslot, hram⟩ := scanSlot_slot t i
  refine ⟨cache, ?_, fun h => ?_⟩
  · rw [hturn.1, hslot, scannedSlot_congr hagree]
  · rw [← loopCache_congr hagree]
    exact (hram ((keyOnInRam_congr hagree).mpr h)).1

/-- The sentinel stands in LEA of every slot visited that R131 names. -/
theorem foldl_scanSlot_sentinel {s : State} {l : List (Fin 64)} {i : Fin 64} (hwf : RegFile.wf s.regs = true)
    (hl : l.Nodup) (hi : i ∈ l) (h : DisablesLoop s i) :
    (l.foldl State.scanSlot s).reg (slotReg i 0x0C) = 0xFFFF := by
  obtain ⟨t, hagree, ht, hturn⟩ := foldl_scanSlot_turn hwf hl hi
  have hregs := (scanSlot_regs ht).1 ((disablesLoop_congr hagree).mpr h)
  calc (l.foldl State.scanSlot s).reg (slotReg i 0x0C)
      = (t.scanSlot i).reg (slotReg i 0x0C) := hturn.2.1 0x0C (by decide)
    _ = (t.setReg (slotReg i 0x0C) 0xFFFF).reg (slotReg i 0x0C) := congrArg (cellsRead · _) hregs
    _ = 0xFFFF := State.setReg_reg_self t _ _ ht

/-- Every other register word stays. -/
theorem foldl_scanSlot_reg {s : State} {l : List (Fin 64)} {a : Nat} (hwf : RegFile.wf s.regs = true) (hl : l.Nodup)
    (h : ∀ i ∈ l, a = slotReg i 0x0C → ¬DisablesLoop s i) : (l.foldl State.scanSlot s).reg a = s.reg a := by
  induction l generalizing s with
  | nil => rfl
  | cons i l ih =>
    obtain ⟨hi, hl'⟩ := List.nodup_cons.mp hl
    have hturn : (s.scanSlot i).reg a = s.reg a := by
      by_cases hloop : DisablesLoop s i
      · have hne : a ≠ slotReg i 0x0C := fun ha => h i List.mem_cons_self ha hloop
        exact (congrArg (cellsRead · a) ((scanSlot_regs hwf).1 hloop)).trans (State.setReg_reg_ne s _ hne)
      · exact congrArg (cellsRead · a) ((scanSlot_regs hwf).2 hloop)
    rw [List.foldl_cons, ih (oneSlotWord_wf (scanSlot_oneSlotWord s i) hwf) hl' fun j hj ha hloop => ?_, hturn]
    have hagree : s.agreeOn (s.scanSlot i) j := scanSlot_agreeOn s fun e => hi (e ▸ hj)
    exact h j (List.mem_cons_of_mem i hj) ha ((disablesLoop_congr hagree).mp hloop)

/-- The scan draws nothing, where every byte it reads lies below `RAM_SIZE` (R61). -/
theorem foldl_scanSlot_draws {s : State} {l : List (Fin 64)} (hl : l.Nodup) (h : ∀ i ∈ l, s.keyOnInRam i) :
    (l.foldl State.scanSlot s).draws = s.draws := by
  induction l generalizing s with
  | nil => rfl
  | cons i l ih =>
    obtain ⟨hi, hl'⟩ := List.nodup_cons.mp hl
    obtain ⟨_, -, hturn⟩ := scanSlot_slot s i
    rw [List.foldl_cons, ih hl' fun j hj => ?_, (hturn (h i List.mem_cons_self)).2]
    have hagree : s.agreeOn (s.scanSlot i) j := scanSlot_agreeOn s fun e => hi (e ▸ hj)
    exact (keyOnInRam_congr hagree).mpr (h j (List.mem_cons_of_mem i hj))

/-! ### The order of the visits -/

/-- Two scans that each visit every slot once leave the same register words. -/
theorem foldl_scanSlot_regs_eq {s : State} {l k : List (Fin 64)} (hwf : RegFile.wf s.regs = true) (hl : l.Nodup)
    (hk : k.Nodup) (hall : ∀ i, i ∈ l ∧ i ∈ k) :
    (l.foldl State.scanSlot s).regs = (k.foldl State.scanSlot s).regs := by
  refine cells_ext (foldl_scanSlot_wf l hwf) (foldl_scanSlot_wf k hwf) fun a => ?_
  change (l.foldl State.scanSlot s).reg a = (k.foldl State.scanSlot s).reg a
  by_cases ha : ∃ i, a = slotReg i 0x0C ∧ DisablesLoop s i
  · obtain ⟨i, rfl, hloop⟩ := ha
    obtain ⟨hil, hik⟩ := hall i
    rw [foldl_scanSlot_sentinel hwf hl hil hloop, foldl_scanSlot_sentinel hwf hk hik hloop]
  · have hno : ∀ i, a = slotReg i 0x0C → ¬DisablesLoop s i := fun i e hloop => ha ⟨i, e, hloop⟩
    rw [foldl_scanSlot_reg hwf hl fun i _ => hno i, foldl_scanSlot_reg hwf hk fun i _ => hno i]

/-- Two scans that each visit every slot once leave the same slots, where the walks stay below `RAM_SIZE`. -/
theorem foldl_scanSlot_slots_eq {s : State} {l k : List (Fin 64)} (hwf : RegFile.wf s.regs = true) (hl : l.Nodup)
    (hk : k.Nodup) (hall : ∀ i, i ∈ l ∧ i ∈ k) (hram : ∀ i, s.keyOnInRam i) :
    (l.foldl State.scanSlot s).slots = (k.foldl State.scanSlot s).slots := by
  refine Vector.ext fun n hn => ?_
  obtain ⟨hil, hik⟩ := hall ⟨n, hn⟩
  obtain ⟨cache, hslot, hcache⟩ := foldl_scanSlot_slot hwf hl hil
  obtain ⟨cache', hslot', hcache'⟩ := foldl_scanSlot_slot hwf hk hik
  rw [hcache (hram _)] at hslot
  rw [hcache' (hram _)] at hslot'
  exact hslot.trans hslot'.symm

/-- Settles O24: registers, slots and draw counter agree, and the scan changes nothing else. -/
theorem keyScanOrder : Obligations.KeyScanOrder := by
  intro s l hram hwf hperm
  have hk := List.nodup_finRange 64
  have hl := hperm.nodup_iff.mpr hk
  have hall : ∀ i, i ∈ l ∧ i ∈ List.finRange 64 := fun i => ⟨hperm.mem_iff.mpr (List.mem_finRange i), List.mem_finRange i⟩
  have hregs : (l.foldl State.scanSlot s).regs = s.keyScan.regs := foldl_scanSlot_regs_eq hwf hl hk hall
  have hslots : (l.foldl State.scanSlot s).slots = s.keyScan.slots := foldl_scanSlot_slots_eq hwf hl hk hall hram
  have hdraws : (l.foldl State.scanSlot s).draws = s.keyScan.draws :=
    (foldl_scanSlot_draws hl fun i _ => hram i).trans (foldl_scanSlot_draws hk fun i _ => hram i).symm
  calc l.foldl State.scanSlot s
      = { s with
          regs := (l.foldl State.scanSlot s).regs
          slots := (l.foldl State.scanSlot s).slots
          draws := (l.foldl State.scanSlot s).draws } := State.foldl_scanSlot_frame l s
    _ = { s with regs := s.keyScan.regs, slots := s.keyScan.slots, draws := s.keyScan.draws } := by
        rw [hregs, hslots, hdraws]
    _ = s.keyScan := s.keyScan_frame.symm

end Sys2Proof.Proofs
end

section
/-! Host writes of slot word 0x00: the store, then with KYONEX the key scan (R125, R130 to R132). -/

namespace Sys2Proof.Proofs

open Sys2Proof Sys2Proof.Machine

/-! ### The stored control word -/

/-- The state after the store of slot `i`'s word 0x00, which the key scan sees (R125). -/
def controlStored (s : State) (i : Fin 64) (v m : Word) : State := s.store (slotReg i 0x00) v m

theorem exec_slotCtrl (s : State) (i : Fin 64) (v : Word) {m : Word} (hm : maskAdmitted m = true) :
    exec (.w16SlotCtrl i v m) s = .next (((controlStored s i v m).keyExecute i).ret .none) :=
  congrArg _ (hostWrite_admitted s _ hm)

theorem controlStored_wf {s : State} (i : Fin 64) (v m : Word) (hwf : RegFile.wf s.regs = true) :
    RegFile.wf (controlStored s i v m).regs = true := State.store_regs_wf s _ v m hwf

theorem controlStored_reg_ne (s : State) (i : Fin 64) (v m : Word) {a : Nat} (h : a ≠ slotReg i 0x00) :
    (controlStored s i v m).reg a = s.reg a := State.store_reg_ne s v m h

theorem controlStored_sr_ne (s : State) (i j : Fin 64) (v m : Word) {o : Nat} (hpos : o ≠ 0) (ho : o < 0x80) :
    (controlStored s i v m).sr j o = s.reg (j.val * 0x80 + o) :=
  controlStored_reg_ne s i v m fun e => hpos ((slotReg_inj ho (by decide)).mp e).2

section
variable {s : State} (i : Fin 64) (v : Word) {m : Word} (hm : maskAdmitted m = true) (hwf : RegFile.wf s.regs = true)
  (j : Fin 64)
include hm hwf

/-- The scan sees the word written in slot `i`, and the stored one in every other slot (R125). -/
theorem controlStored_word : (controlStored s i v m).sr j 0x00 = s.keyWord i v m j := by
  unfold State.keyWord
  by_cases hj : j = i
  · subst hj
    rw [if_pos rfl]
    exact store_sr_self s j 0x00 v hm hwf
  · rw [if_neg hj]
    exact controlStored_reg_ne s i v m fun e => hj ((slotReg_inj (by decide) (by decide)).mp e).1

theorem controlStored_kyonex : (controlStored s i v m).kyonex j = (s.keyWord i v m j).getLsbD 15 :=
  congrArg (BitVec.getLsbD · 15) (controlStored_word i v hm hwf j)

theorem controlStored_kyonb : (controlStored s i v m).kyonb j = (s.keyWord i v m j).getLsbD 14 :=
  congrArg (BitVec.getLsbD · 14) (controlStored_word i v hm hwf j)

theorem controlStored_pcms : (controlStored s i v m).pcms j = (s.keyWord i v m j).toNat / 128 % 4 :=
  congrArg (bits · 8 7) (controlStored_word i v hm hwf j)

theorem controlStored_sa :
    (controlStored s i v m).sa j = (s.keyWord i v m j).toNat % 128 * 65536 + (s.reg (j.val * 0x80 + 0x04)).toNat := by
  rw [State.sa, controlStored_word i v hm hwf j, controlStored_sr_ne s i j v m (by decide) (by decide)]
  simp [bits]

theorem scanStarts_iff : ScanStarts (controlStored s i v m) j ↔ s.starts i v m j := by
  rw [ScanStarts, controlStored_kyonb i v hm hwf j]
  rfl

theorem disablesLoop_iff : DisablesLoop (controlStored s i v m) j ↔
    s.starts i v m j ∧ 2 ≤ (s.keyWord i v m j).toNat / 128 % 4 ∧
      (s.reg (j.val * 0x80 + 0x0C)).toNat < (s.reg (j.val * 0x80 + 0x08)).toNat := by
  rw [DisablesLoop, scanStarts_iff i v hm hwf j, controlStored_pcms i v hm hwf j, State.lea, State.lsa,
    controlStored_sr_ne s i j v m (by decide) (by decide), controlStored_sr_ne s i j v m (by decide) (by decide)]

end

theorem controlStored_lsa (s : State) (i j : Fin 64) (v m : Word) :
    (controlStored s i v m).lsa j = (s.reg (j.val * 0x80 + 0x08)).toNat :=
  congrArg BitVec.toNat (controlStored_sr_ne s i j v m (by decide) (by decide))

/-! ### Execution -/

/-- KYONEX runs the scan and is then cleared (R125). -/
theorem keyExecute_scan {s : State} {i : Fin 64} (h : s.kyonex i = true) :
    s.keyExecute i = s.keyScan.setReg (slotReg i 0x00) (s.keyScan.sr i 0x00 &&& ~~~ 0x8000) := if_pos h

theorem keyExecute_idle {s : State} {i : Fin 64} (h : s.kyonex i = false) : s.keyExecute i = s :=
  if_neg (Bool.eq_false_iff.mp h)

theorem keyExecute_slots {s : State} {i : Fin 64} (h : s.kyonex i = true) : (s.keyExecute i).slots = s.keyScan.slots := by
  rw [keyExecute_scan h]
  rfl

/-- Every slot is scanned (R125). -/
theorem keyScan_scanned {s : State} (hwf : RegFile.wf s.regs = true) (j : Fin 64) :
    ∃ cache, s.keyScan.slots[j] = scannedSlot s j cache ∧ (s.keyOnInRam j → cache = loopCache s j) :=
  foldl_scanSlot_slot hwf (List.nodup_finRange 64) (List.mem_finRange j)

theorem keyScan_sentinel {s : State} {j : Fin 64} (hwf : RegFile.wf s.regs = true) (h : DisablesLoop s j) :
    s.keyScan.reg (slotReg j 0x0C) = 0xFFFF :=
  foldl_scanSlot_sentinel hwf (List.nodup_finRange 64) (List.mem_finRange j) h

theorem keyScan_reg {s : State} {a : Nat} (hwf : RegFile.wf s.regs = true)
    (h : ∀ j, a = slotReg j 0x0C → ¬DisablesLoop s j) : s.keyScan.reg a = s.reg a :=
  foldl_scanSlot_reg hwf (List.nodup_finRange 64) fun j _ => h j

/-- The scan leaves every word 0x00 as the store left it (R125, R132). -/
theorem keyScan_control {s : State} (hwf : RegFile.wf s.regs = true) (j : Fin 64) : s.keyScan.sr j 0x00 = s.sr j 0x00 :=
  keyScan_reg hwf fun k e => absurd ((slotReg_inj (by decide) (by decide)).mp e).2 (by decide)

/-- Clearing KYONEX keeps every other word. -/
theorem keyExecute_reg_ne {s : State} {i : Fin 64} {a : Nat} (h : s.kyonex i = true) (ha : a ≠ slotReg i 0x00) :
    (s.keyExecute i).reg a = s.keyScan.reg a := by
  rw [keyExecute_scan h]
  exact State.setReg_reg_ne _ _ ha

/-! ### The statements -/

/-- Settles O19: without KYONEX the store is all. -/
theorem controlWriteWithoutExecute : Obligations.ControlWriteWithoutExecute := by
  intro i v m s hm hwf hkyonex
  have hidle := keyExecute_idle ((controlStored_kyonex i v hm hwf i).trans hkyonex)
  have hexec : exec (.w16SlotCtrl i v m) s = .next ((controlStored s i v m).ret .none) := by
    rw [exec_slotCtrl s i v hm, hidle]
  obtain ⟨-, hregs, hram⟩ := storesWord_of_store (a := slotReg i 0x00)
    (t := (controlStored s i v m).ret .none) hm hwf rfl rfl
  exact ⟨_, hexec, rfl, controlStored_word i v hm hwf i, hregs, hram⟩

/-- A started slot in the words of the statement (R130, R180, R225). -/
theorem startedSlot_controlStored (s : State) (i j : Fin 64) (v m : Word) (cache : Predictor) :
    startedSlot (controlStored s i v m) j cache =
      let w := (s.reg (j.val * 0x80 + 0x1C)).toNat
      { active := true
        lpend := false
        curAddr := 0
        nxtAddr := 0x1000
        prvAddr := 0xFFFFFFFF
        step := BitVec.ofNat 32 (pitchOf (s.reg (j.val * 0x80 + 0x18)))
        eg := (startedSlot (controlStored s i v m) j cache).eg
        ad := (startedSlot (controlStored s i v m) j cache).ad
        plfo := latchedLfo s.params s.slots[j].plfo (w / 1024 % 32) (w / 256 % 4) (w / 32 % 8)
        alfo := latchedLfo s.params s.slots[j].alfo (w / 1024 % 32) (w / 8 % 4) (w % 8) } := by
  rw [startedSlot_eq, controlStored_sr_ne s i j v m (o := 0x18) (by decide) (by decide),
    controlStored_sr_ne s i j v m (o := 0x1C) (by decide) (by decide)]
  rfl

/-- Settles O20: the scan of every slot in the state that the store left. -/
theorem keyScanSlots : Obligations.KeyScanSlots := by
  intro i v m s hm hwf hkyonex
  have hexecutes := (controlStored_kyonex i v hm hwf i).trans hkyonex
  have hframe := keyExecute_frame (controlStored s i v m) i
  have hram : ((controlStored s i v m).keyExecute i).ram = s.ram := by
    rw [hframe]
    rfl
  refine ⟨_, exec_slotCtrl s i v hm, congrArg (State.ret · .none) hframe,
    fun a => congrArg (cellsRead · a) hram, fun j => ?_⟩
  have hkyonb := controlStored_kyonb i v hm hwf j
  rw [State.ret_slots, keyExecute_slots hexecutes]
  refine ⟨fun hstarts => ?_, fun hoff => keyScan_releases (hkyonb.trans hoff),
    fun hon hplaying => keyScan_keeps (hkyonb.trans hon) hplaying⟩
  obtain ⟨cache, hslot, -⟩ := keyScan_scanned (controlStored_wf i v m hwf) j
  rw [scannedSlot_starts cache ((scanStarts_iff i v hm hwf j).mpr hstarts)] at hslot
  rw [hslot]
  exact ⟨startedSlot_controlStored s i j v m cache, rfl⟩

/-- Settles O21: the scan's words, and KYONEX cleared after it. -/
theorem keyScanRegisters : Obligations.KeyScanRegisters := by
  intro i v m s t hm hwf hkyonex hexec
  obtain rfl : ((controlStored s i v m).keyExecute i).ret .none = t :=
    Host.Outcome.next.inj ((exec_slotCtrl s i v hm).symm.trans hexec)
  have hwf' := controlStored_wf i v m hwf
  have hexecutes := (controlStored_kyonex i v hm hwf i).trans hkyonex
  refine ⟨?_, fun j hstarts hadpcm hlea => ?_, fun a ha hno => ?_⟩
  · rw [State.ret_reg, keyExecute_scan hexecutes]
    refine (State.setReg_reg_self _ (slotReg i 0x00) _ (keyScan_regs_wf hwf')).trans ?_
    rw [keyScan_control hwf', controlStored_word i v hm hwf i]
    rfl
  · have hne : slotReg j 0x0C ≠ slotReg i 0x00 := fun e => absurd ((slotReg_inj (by decide) (by decide)).mp e).2 (by decide)
    exact (keyExecute_reg_ne hexecutes hne).trans
      (keyScan_sentinel hwf' ((disablesLoop_iff i v hm hwf j).mpr ⟨hstarts, hadpcm, hlea⟩))
  · calc ((controlStored s i v m).keyExecute i).reg a
        = (controlStored s i v m).keyScan.reg a := keyExecute_reg_ne hexecutes ha
      _ = (controlStored s i v m).reg a :=
          keyScan_reg hwf' fun j e hloop => hno j e ((disablesLoop_iff i v hm hwf j).mp hloop)
      _ = s.reg a := controlStored_reg_ne s i v m ha

/-- Settles O23: the decoder of a started slot, with the loop cache of the walk. -/
theorem adpcmKeyOn : Obligations.AdpcmKeyOn := by
  intro i j v m s t hm hwf hkyonex hstarts hexec w sa lsa p y
  obtain rfl : ((controlStored s i v m).keyExecute i).ret .none = t :=
    Host.Outcome.next.inj ((exec_slotCtrl s i v hm).symm.trans hexec)
  have hexecutes := (controlStored_kyonex i v hm hwf i).trans hkyonex
  have hpcms := controlStored_pcms i v hm hwf j
  have hsa : (controlStored s i v m).sa j = sa := controlStored_sa i v hm hwf j
  have hlsa : (controlStored s i v m).lsa j = lsa := controlStored_lsa s i j v m
  obtain ⟨cache, hslot, hcache⟩ := keyScan_scanned (controlStored_wf i v m hwf) j
  rw [scannedSlot_starts cache ((scanStarts_iff i v hm hwf j).mpr hstarts)] at hslot
  have hy : y = startedDecoder (controlStored s i v m) j cache := by
    change (State.slots _)[j].ad = _
    rw [State.ret_slots, keyExecute_slots hexecutes, hslot]
    rfl
  rw [hy, startedDecoder, hpcms]
  refine ⟨fun hadpcm => ?_, fun hpcm => ?_⟩
  · rw [if_pos hadpcm, initDecoder, hsa]
    refine ⟨rfl, fun hram => ?_⟩
    have hloop : cache = p := by
      rw [hcache fun _ _ _ => by rwa [hsa, hlsa], loopCache, hsa, hlsa]
      rfl
    exact ⟨congrArg Predictor.sample hloop, congrArg Predictor.quant hloop⟩
  · rw [if_neg (Nat.not_le_of_lt hpcm)]
    rfl

end Sys2Proof.Proofs
end

section
/-! What a TICK does to one slot and to its word 0x00, and what it leaves alone (R160, R163, R181, R250, R261). -/

namespace Sys2Proof.Proofs

open Sys2Proof Sys2Proof.Machine

/-! ### A slot's turn -/

theorem runs_congr {s t : State} {i : Fin 64} (h : s.agreeOn t i) : t.runs i = s.runs i := by
  rw [State.runs, State.runs, h.1, ssctl_congr h]

/-- The turn of an inactive or frozen slot changes no state (R163, R181). -/
theorem slotTurn_idle {m : Mix} {i : Fin 64} (h : m.state.runs i = false) : (m.slotTurn i).state = m.state := by
  by_cases hactive : m.state.slots[i].active = true
  · have hfrozen : m.state.ssctl i = true := by
      rw [State.runs, hactive, Bool.true_and] at h
      simpa using h
    rw [Mix.slotTurn, if_pos hactive, slotUpdate_frozen hfrozen]
  · rw [Mix.slotTurn_inactive m i (Bool.eq_false_iff.mpr hactive)]

theorem slotTurn_runs {m : Mix} {i : Fin 64} (h : m.state.runs i = true) :
    (m.slotTurn i).state = m.state.commitRun i (m.state.slotRun i m.state.slots[i]) := by
  obtain ⟨hactive, hssctl⟩ := (runs_iff m.state i).mp h
  rw [Mix.slotTurn, if_pos hactive, State.slotUpdate, if_neg (Bool.eq_false_iff.mp hssctl)]

/-- The registers after a slot's run: a stop clears KYONB (R160). -/
theorem commitRun_regs (s : State) (i : Fin 64) (r : SlotRun) :
    (s.commitRun i r).regs =
      if r.stop = true then (s.setReg (slotReg i 0x00) (s.sr i 0x00 &&& 0xBFFF)).regs else s.regs := by
  rw [State.commitRun_frame]
  rfl

theorem slotTurn_oneSlotWord (m : Mix) (i : Fin 64) : OneSlotWord m.state (m.slotTurn i).state i := by
  cases hruns : m.state.runs i with
  | false => exact .inl (congrArg State.regs (slotTurn_idle hruns))
  | true =>
    rw [slotTurn_runs hruns, OneSlotWord, commitRun_regs]
    split
    · exact .inr ⟨0x00, _, by decide, rfl⟩
    · exact .inl rfl

theorem slotTurns_wf {m : Mix} (l : List (Fin 64)) (hwf : RegFile.wf m.state.regs = true) :
    RegFile.wf (m.slotTurns l).state.regs = true :=
  List.foldlRecOn (motive := fun m => RegFile.wf m.state.regs = true) l Mix.slotTurn hwf
    fun m hm i _ => oneSlotWord_wf (slotTurn_oneSlotWord m i) hm

/-! ### The TICK around a slot's turn -/

/-- Past the mix, a TICK writes the timers' words and SCIPD only (R261, R265). -/
theorem tick_reg_eq_mix (s : State) (efreg : List Word) {a : Nat} (htimers : ∀ k, a ≠ timerReg k) (hscipd : a ≠ scipd) :
    (s.tick efreg).reg a = (s.mix efreg).state.reg a := by
  have hirq : (s.tick efreg).regs = (s.mix efreg).state.timersTick.regs := by
    unfold State.tick
    rw [State.ret_regs, State.checkIrq_frame]
  calc (s.tick efreg).reg a
      = (s.mix efreg).state.timersTick.reg a := congrArg (cellsRead · a) hirq
    _ = (s.mix efreg).state.reg a := State.timersTick_reg (s.mix efreg).state htimers hscipd

/-- A TICK writes no words but the slots' words 0x00, the timers' words and SCIPD (R160, R261). -/
theorem tick_reg (s : State) (efreg : List Word) {a : Nat} (hslots : ∀ i, a ≠ slotReg i 0x00)
    (htimers : ∀ k, a ≠ timerReg k) (hscipd : a ≠ scipd) : (s.tick efreg).reg a = s.reg a :=
  (tick_reg_eq_mix s efreg htimers hscipd).trans (s.mix_reg efreg hslots)

theorem slotReg_ne_scipd (i : Fin 64) {o : Nat} (ho : o < 0x80) : slotReg i o ≠ scipd := by
  have hlt := slotReg_lt i ho
  unfold scipd
  omega

theorem tick_sr_eq_mix (s : State) (efreg : List Word) (i : Fin 64) {o : Nat} (ho : o < 0x80) :
    (s.tick efreg).sr i o = (s.mix efreg).state.sr i o :=
  tick_reg_eq_mix s efreg (fun k => (timerReg_ne_slotReg k i ho).symm) (slotReg_ne_scipd i ho)

/-- A TICK leaves every word of a slot but its word 0x00. -/
theorem tick_sr_ne (s : State) (efreg : List Word) (i : Fin 64) {o : Nat} (hpos : o ≠ 0) (ho : o < 0x80) :
    (s.tick efreg).sr i o = s.sr i o :=
  tick_reg s efreg (fun _ e => hpos ((slotReg_inj ho (by decide)).mp e).2)
    (fun k => (timerReg_ne_slotReg k i ho).symm) (slotReg_ne_scipd i ho)

theorem tick_params (s : State) (efreg : List Word) : (s.tick efreg).params = s.params := by
  unfold State.tick
  rw [State.ret_params, State.checkIrq_frame, State.timersTick_frame, State.mix_frame]

/-- A TICK does to a slot and to its word 0x00 what the slot's turn does, in a state that agrees with the first one on all
that the slot reads. -/
theorem tick_turn (s : State) (efreg : List Word) (i : Fin 64) :
    ∃ m : Mix, s.agreeOn m.state i ∧ (RegFile.wf s.regs = true → RegFile.wf m.state.regs = true) ∧
      (s.tick efreg).slots[i] = (m.slotTurn i).state.slots[i] ∧
      (s.tick efreg).sr i 0x00 = (m.slotTurn i).state.sr i 0x00 := by
  obtain ⟨before, after, hsplit⟩ := List.append_of_mem (List.mem_finRange i)
  have hnodup := List.nodup_finRange 64
  rw [hsplit, List.nodup_middle, List.nodup_cons, List.mem_append, not_or] at hnodup
  obtain ⟨⟨hbefore, hafter⟩, -⟩ := hnodup
  have hturns : (s.mix efreg).state = ((((mixStart s).slotTurns before).slotTurn i).slotTurns after).state := by
    rw [State.mix, Mix.foldl_returnTurn_state, hsplit, Mix.slotTurns, List.foldl_append, List.foldl_cons]
    rfl
  have hlater := slotTurns_agreeOn (((mixStart s).slotTurns before).slotTurn i) hafter
  refine ⟨(mixStart s).slotTurns before, slotTurns_agreeOn (mixStart s) hbefore,
    slotTurns_wf (m := mixStart s) before, ?_, ?_⟩
  · rw [tick_slots, hturns, hlater.1]
  · rw [tick_sr_eq_mix s efreg i (by decide), hturns, agreeOn_sr hlater (by decide)]

/-- A TICK leaves an inactive or frozen slot alone, and its word 0x00 (R163, R181). -/
theorem tick_idle {s : State} {i : Fin 64} (efreg : List Word) (h : s.runs i = false) :
    (s.tick efreg).slots[i] = s.slots[i] ∧ (s.tick efreg).sr i 0x00 = s.sr i 0x00 := by
  obtain ⟨m, hagree, -, hslot, hword⟩ := tick_turn s efreg i
  rw [hslot, hword, slotTurn_idle ((runs_congr hagree).trans h)]
  exact ⟨hagree.1, agreeOn_sr hagree (by decide)⟩

/-- The run that slot `i` makes in a TICK when the slots before it leave the draw counter at `d` (R182). -/
def runFrom (s : State) (i : Fin 64) (d : Nat) : SlotRun := (s.setDraws d).slotRun i s.slots[i]

/-- A TICK commits the run of an active slot that is not frozen (R160, R182). -/
theorem tick_run {s : State} {i : Fin 64} (efreg : List Word) (h : s.runs i = true) :
    ∃ d, (s.tick efreg).slots[i] =
        (if (runFrom s i d).stop then { (runFrom s i d).slot with active := false } else (runFrom s i d).slot) ∧
      ((runFrom s i d).stop = false → (s.tick efreg).sr i 0x00 = s.sr i 0x00) ∧
      ((runFrom s i d).stop = true → RegFile.wf s.regs = true →
        (s.tick efreg).sr i 0x00 = s.sr i 0x00 &&& 0xBFFF) := by
  obtain ⟨m, hagree, hwf, hslot, hword⟩ := tick_turn s efreg i
  have hrun : m.state.slotRun i m.state.slots[i] = runFrom s i m.state.draws := by
    rw [hagree.1]
    exact slotRun_congr (s := s.setDraws m.state.draws) hagree rfl _
  have hcontrol : m.state.sr i 0x00 = s.sr i 0x00 := agreeOn_sr hagree (by decide)
  rw [slotTurn_runs ((runs_congr hagree).trans h), hrun] at hslot hword
  refine ⟨m.state.draws, hslot.trans (State.commitRun_slot _ _ _), fun hstop => ?_, fun hstop hregs => ?_⟩
  · rw [hword, State.sr, State.reg, commitRun_regs, if_neg (Bool.eq_false_iff.mp hstop)]
    exact hcontrol
  · rw [hword, State.sr, State.reg, commitRun_regs, if_pos hstop, ← hcontrol]
    exact State.setReg_reg_self _ _ _ (hwf hregs)

/-! ### The statement -/

/-- Settles O33: the turns of the slots that do not run, the stop of those that do, and the words that no turn and no timer
writes. -/
theorem tickFrame : Obligations.TickFrame := by
  intro e s t hwf hexec
  obtain rfl : s.tick e = t := Host.Outcome.next.inj hexec
  refine ⟨fun j => tick_idle e, fun j => ?_, fun a hslots hother => ?_⟩
  · cases hruns : s.runs j with
    | false => exact .inl (tick_idle e hruns).2
    | true =>
      obtain ⟨d, -, hgoes, hstops⟩ := tick_run e hruns
      cases hstop : (runFrom s j d).stop with
      | false => exact .inl (hgoes hstop)
      | true => exact .inr (hstops hstop hwf)
  · simp only [List.mem_cons, List.not_mem_nil, or_false, not_or] at hother
    obtain ⟨htimerA, htimerB, htimerC, hscipd⟩ := hother
    refine tick_reg s e hslots (fun k => ?_) hscipd
    match k with
    | 0 => exact htimerA
    | 1 => exact htimerB
    | 2 => exact htimerC

end Sys2Proof.Proofs
end

section
/-! The envelope in a TICK: which stages follow which, and the volume's direction in each (R150, R155 to R159, R164). -/

namespace Sys2Proof.Proofs

open Sys2Proof Sys2Proof.Machine

/-! ### The envelope's update -/

/-- The stages before and after an envelope's move: ATTACK goes to DECAY1 or DECAY2, DECAY1 to DECAY2, and every stage may
stay (R150). -/
def egMoves : List (EgState × EgState) :=
  [(.attack, .attack), (.attack, .decay1), (.attack, .decay2), (.decay1, .decay1), (.decay1, .decay2), (.decay2, .decay2),
    (.release, .release)]

theorem egMoves_refl (st : EgState) : (st, st) ∈ egMoves := by cases st <;> decide

/-- The volume rises in ATTACK and falls in the other stages, both weakly; the stage moves on or stays (R164, R150). -/
structure EgProgress (e e' : Eg) : Prop where
  rises : e.state = .attack → e'.state = .attack → e.volume ≤ e'.volume
  falls : e.state ≠ .attack → e'.volume ≤ e.volume
  moves : (e.state, e'.state) ∈ egMoves

theorem egProgress_refl (e : Eg) : EgProgress e e := ⟨fun _ _ => le_rfl, fun _ => le_rfl, egMoves_refl e.state⟩

theorem egAttack_progress {p : Params} (lpslnk : Bool) {e : Eg} (hstate : e.state = .attack) (h : VolumeInRange p e) :
    EgProgress e (egAttack p lpslnk e).eg where
  rises _ _ := by
    obtain ⟨-, hhi⟩ := h
    unfold egAttack
    dsimp only
    split
    · exact hhi
    · omega
  falls hne := absurd hstate hne
  moves := by
    rw [hstate]
    unfold egAttack
    dsimp only
    split
    · split <;> decide
    · decide

theorem egDecay1_progress {p : Params} {e : Eg} (hstate : e.state = .decay1) (h : VolumeInRange p e) :
    EgProgress e (egDecay1 p e).eg where
  rises hattack := absurd (hstate.symm.trans hattack) (by decide)
  falls _ := by
    obtain ⟨hlo, -⟩ := h
    unfold egDecay1
    dsimp only
    omega
  moves := by
    rw [hstate]
    unfold egDecay1
    dsimp only
    split <;> decide

theorem egDecay2_progress {p : Params} (liveD2r : Nat) {e : Eg} (hstate : e.state = .decay2) (h : VolumeInRange p e) :
    EgProgress e (egDecay2 p liveD2r e).eg where
  rises hattack := absurd (hstate.symm.trans hattack) (by decide)
  falls _ := by
    obtain ⟨hlo, -⟩ := h
    unfold egDecay2
    dsimp only
    split <;> omega
  moves := egMoves_refl e.state

theorem egRelease_progress {p : Params} {e : Eg} (hstate : e.state = .release) (h : VolumeInRange p e) :
    EgProgress e (egRelease p e).eg where
  rises hattack := absurd (hstate.symm.trans hattack) (by decide)
  falls _ := by
    obtain ⟨hlo, -⟩ := h
    unfold egRelease
    dsimp only
    split <;> omega
  moves := egMoves_refl e.state

theorem egUpdate_progress {p : Params} (lpslnk : Bool) (liveD2r : Nat) {e : Eg} (h : VolumeInRange p e) :
    EgProgress e (egUpdate p lpslnk liveD2r e).eg := by
  unfold egUpdate
  split
  · exact egAttack_progress lpslnk ‹_› h
  · exact egDecay1_progress ‹_› h
  · exact egDecay2_progress liveD2r ‹_› h
  · exact egRelease_progress ‹_› h

/-! ### The loop link -/

/-- The loop link changes an ATTACK to DECAY1 and no other stage (R156). -/
theorem linkedEg_cases (s : State) (i : Fin 64) (x : Slot) (g : Nat) :
    linkedEg s i x g = x.eg ∨
      s.lpslnk i = true ∧ x.eg.state = .attack ∧ linkedEg s i x g = { x.eg with state := .decay1 } := by
  unfold linkedEg
  by_cases h : s.lsa i ≤ (x.advanced g).toNat / 4096 ∧ s.lpslnk i = true ∧ x.eg.state = .attack
  · obtain ⟨-, hlpslnk, hattack⟩ := id h
    rw [if_pos h]
    exact .inr ⟨hlpslnk, hattack, rfl⟩
  · rw [if_neg h]
    exact .inl rfl

/-- From a linked ATTACK the envelope goes on as from DECAY1. -/
theorem egProgress_linked {e e' : Eg} (hattack : e.state = .attack) (h : EgProgress { e with state := .decay1 } e') :
    EgProgress e e' := by
  obtain ⟨-, -, hmoves⟩ := h
  have hnext : e'.state = .decay1 ∨ e'.state = .decay2 := by
    simpa [egMoves] using hmoves
  refine ⟨fun _ hstays => ?_, absurd hattack, ?_⟩
  · rw [hstays] at hnext
    simp at hnext
  · obtain hd | hd := hnext <;> rw [hattack, hd] <;> decide

/-! ### The TICK -/

/-- A TICK updates the envelope of an active slot that is not frozen, after the loop link (R155 to R159, R182). -/
theorem tick_eg {s : State} {i : Fin 64} (efreg : List Word) (hruns : s.runs i = true) :
    ∃ g, s.pitchGainIs i g ∧ (s.tick efreg).slots[i].eg =
      (egUpdate s.params (s.lpslnk i) (s.d2r i) (linkedEg s i s.slots[i] g)).eg := by
  obtain ⟨hactive, hssctl⟩ := (runs_iff s i).mp hruns
  obtain ⟨n, hslot⟩ := tick_slot s efreg hactive
  obtain ⟨g, _, _, _, hg, -, hr, -, -, heg⟩ := slotUpdate_runsWith (s := s.setDraws n) hssctl
  refine ⟨g, hg, ?_⟩
  rw [hslot, heg]
  exact hr.eg

theorem tick_egProgress {s : State} {i : Fin 64} (efreg : List Word) (h : s.volumeInv i) :
    EgProgress s.slots[i].eg (s.tick efreg).slots[i].eg := by
  cases hruns : s.runs i with
  | false =>
    rw [(tick_idle efreg hruns).1]
    exact egProgress_refl _
  | true =>
    have hrange : VolumeInRange s.params s.slots[i].eg := h
    obtain ⟨g, -, heg⟩ := tick_eg efreg hruns
    rw [heg]
    obtain hlink | ⟨-, hattack, hlink⟩ := linkedEg_cases s i s.slots[i] g
    · rw [hlink]
      exact egUpdate_progress _ _ hrange
    · rw [hlink]
      exact egProgress_linked hattack (egUpdate_progress _ _ hrange)

/-- Settles O37: the progress of one update, from DECAY1 where the loop link ends an ATTACK; a slot that does not run keeps
its envelope. -/
theorem envelopeMonotone : Obligations.EnvelopeMonotone := by
  intro e s t j hexec hvolume
  have htick : s.tick e = t := Host.Outcome.next.inj hexec
  have hprogress := tick_egProgress e hvolume
  rw [htick] at hprogress
  exact ⟨hprogress.rises, hprogress.falls, hprogress.moves⟩

end Sys2Proof.Proofs
end

section
/-! How long a release and an attack last, over every run of TICKs of a looping slot (R165). -/

namespace Sys2Proof.Proofs

open Sys2Proof Sys2Proof.Machine

/-! ### A slot that does not run, over TICKs -/

theorem runOps_tick_cons (e : List Word) (ticks : List (List Word)) (s : State) :
    runOps ((e :: ticks).map Instr.tick) s = runOps (ticks.map Instr.tick) (s.tick e) := rfl

theorem tick_runs_idle {s : State} {i : Fin 64} (efreg : List Word) (h : s.runs i = false) :
    (s.tick efreg).runs i = false := by
  obtain ⟨hslot, hword⟩ := tick_idle efreg h
  rw [State.runs, State.ssctl, hslot, hword]
  exact h

/-- A slot that has stopped or is frozen stays as it is (R163, R181). -/
theorem ticks_idle {s t : State} {i : Fin 64} {ticks : List (List Word)} (h : s.runs i = false)
    (hrun : runOps (ticks.map Instr.tick) s = .next t) : t.slots[i] = s.slots[i] := by
  induction ticks generalizing s with
  | nil => rw [Host.Outcome.next.inj hrun]
  | cons e ticks ih =>
    rw [runOps_tick_cons] at hrun
    rw [ih (tick_runs_idle e h) hrun, (tick_idle e h).1]

/-! ### One TICK of a looping slot -/

/-- Slot `i` is advanced by a TICK and loops (R181, R196). -/
structure Looping (s : State) (i : Fin 64) : Prop where
  runs : s.runs i = true
  lpctl : s.lpctl i = true

/-- Loop control stops no slot that loops (R195, R196). -/
theorem loopControl_stop {s : State} {i : Fin 64} (x : Slot) (h : s.lpctl i = true) : (s.loopControl i x).2 = false := by
  rw [State.loopControl, if_pos h]

theorem loopControl_active (s : State) (i : Fin 64) (x : Slot) : (s.loopControl i x).1.active = x.active := by
  rw [loopControl_slot]
  split <;> rfl

/-- Without the loop link an advance leaves the envelope (R194, R156). -/
theorem advance_eg_unlinked {s : State} {i : Fin 64} {x : Slot} (stepEff : Nat)
    (hlink : x.eg.state = .attack → s.lpslnk i = false) : (s.advance i x stepEff).eg = x.eg := by
  unfold State.advance
  dsimp only
  rw [if_neg]
  rintro ⟨-, hlpslnk, hattack⟩
  exact absurd hlpslnk (Bool.eq_false_iff.mp (hlink hattack))

/-- A run stops where loop control stops the slot or the envelope's update does (R199, R160). -/
theorem slotRun_stop (s : State) (i : Fin 64) :
    (s.slotRun i s.slots[i]).stop =
      ((s.loopControl i (runMoved s i)).2 || (egUpdate s.params (s.lpslnk i) (s.d2r i) (runMoved s i).eg).stop) := by
  rw [← loopControl_eg s i (runMoved s i)]
  rfl

theorem slotRun_active (s : State) (i : Fin 64) : (s.slotRun i s.slots[i]).slot.active = s.slots[i].active :=
  loopControl_active s i (runMoved s i)

/-- What the envelope's update gives for slot `i` in a TICK without the loop link. -/
def egUse (s : State) (i : Fin 64) : EgUse := egUpdate s.params (s.lpslnk i) (s.d2r i) s.slots[i].eg

/-- The run of a looping slot without the loop link: the envelope's update alone moves the envelope and stops the slot. -/
theorem slotRun_looping {s : State} {i : Fin 64} (hlpctl : s.lpctl i = true)
    (hlink : s.slots[i].eg.state = .attack → s.lpslnk i = false) :
    (s.slotRun i s.slots[i]).slot.eg = (egUse s i).eg ∧ (s.slotRun i s.slots[i]).stop = (egUse s i).stop := by
  have heg : (runMoved s i).eg = s.slots[i].eg := advance_eg_unlinked _ hlink
  rw [slotRun_eg, slotRun_stop, heg, loopControl_stop _ hlpctl]
  exact ⟨rfl, rfl⟩

/-- Where no word of a slot changes and the slot stays active, it goes on looping. -/
theorem tick_keeps_looping {s : State} {i : Fin 64} (efreg : List Word) (h : Looping s i)
    (hactive : (s.tick efreg).slots[i].active = true) (hword : (s.tick efreg).sr i 0x00 = s.sr i 0x00) :
    Looping (s.tick efreg) i where
  runs := by
    obtain ⟨-, hssctl⟩ := (runs_iff s i).mp h.runs
    rw [runs_iff, State.ssctl, hword]
    exact ⟨hactive, hssctl⟩
  lpctl := by
    rw [State.lpctl, hword]
    exact h.lpctl

/-- A TICK of a looping slot without the loop link: its envelope is updated, and the slot stops or loops on as the update
says (R160). -/
theorem tick_looping {s : State} {i : Fin 64} (efreg : List Word) (h : Looping s i)
    (hlink : s.slots[i].eg.state = .attack → s.lpslnk i = false) :
    (s.tick efreg).slots[i].eg = (egUse s i).eg ∧
      ((egUse s i).stop = true → (s.tick efreg).slots[i].active = false) ∧
      ((egUse s i).stop = false → Looping (s.tick efreg) i) := by
  obtain ⟨d, hslot, hgoes, -⟩ := tick_run efreg h.runs
  obtain ⟨heg, hstop⟩ : (runFrom s i d).slot.eg = (egUse s i).eg ∧ (runFrom s i d).stop = (egUse s i).stop :=
    slotRun_looping (s := s.setDraws d) h.lpctl hlink
  have hactive : (runFrom s i d).slot.active = true :=
    (slotRun_active (s.setDraws d) i).trans ((runs_iff s i).mp h.runs).1
  refine ⟨?_, fun hstops => ?_, fun hplays => ?_⟩
  · rw [hslot, ← heg]
    split <;> rfl
  · rw [hslot, hstop, if_pos hstops]
  · refine tick_keeps_looping efreg h ?_ (hgoes (hstop.trans hplays))
    rw [hslot, hstop, hplays]
    exact hactive

/-! ### Release -/

/-- A TICK of a RELEASE falls by `rr`, and stops the slot where that comes to 0 (R159). -/
theorem tick_release {s : State} {i : Fin 64} (efreg : List Word) (h : Looping s i)
    (hstate : s.slots[i].eg.state = .release) :
    let x := s.slots[i].eg
    (x.rr < x.volume → Looping (s.tick efreg) i ∧ (s.tick efreg).slots[i].eg = { x with volume := x.volume - x.rr }) ∧
      (x.volume ≤ x.rr → (s.tick efreg).slots[i].active = false ∧ (s.tick efreg).slots[i].eg = { x with volume := 0 }) := by
  obtain ⟨heg, hstops, hplays⟩ := tick_looping efreg h fun hattack => absurd (hstate.symm.trans hattack) (by decide)
  have huse : egUse s i = egRelease s.params s.slots[i].eg := by rw [egUse, egUpdate, hstate]
  rw [huse] at heg hstops hplays
  intro x
  constructor
  · intro hlt
    have hpos : ¬x.volume - x.rr ≤ 0 := by omega
    refine ⟨hplays (decide_eq_false hpos), ?_⟩
    rw [heg, egRelease]
    dsimp only
    rw [if_neg hpos]
  · intro hle
    have hzero : x.volume - x.rr ≤ 0 := by omega
    refine ⟨hstops (decide_eq_true hzero), ?_⟩
    rw [heg, egRelease]
    dsimp only
    rw [if_pos hzero]

/-- A RELEASE over a run of TICKs, by induction on the run (R165). -/
theorem ticks_release {s t : State} {i : Fin 64} {ticks : List (List Word)} (h : Looping s i)
    (hstate : s.slots[i].eg.state = .release) (hpos : 0 < s.slots[i].eg.volume)
    (hrun : runOps (ticks.map Instr.tick) s = .next t) :
    let x := s.slots[i].eg
    let y := t.slots[i].eg
    let n : Int := ticks.length
    (n * x.rr < x.volume → t.slots[i].active = true ∧ y.state = .release ∧ y.volume = x.volume - n * x.rr) ∧
      (x.volume ≤ n * x.rr → t.slots[i].active = false ∧ y.state = .release ∧ y.volume = 0) := by
  induction ticks generalizing s with
  | nil =>
    rw [← Host.Outcome.next.inj hrun]
    simp only [List.length_nil, Nat.cast_zero, zero_mul, sub_zero]
    exact ⟨fun _ => ⟨((runs_iff s i).mp h.runs).1, hstate, trivial⟩, fun hle => absurd hpos (not_lt.mpr hle)⟩
  | cons e ticks ih =>
    obtain ⟨hfalls, hends⟩ := tick_release e h hstate
    rw [runOps_tick_cons] at hrun
    simp only [List.length_cons, Nat.cast_add, Nat.cast_one, add_mul, one_mul]
    obtain hlt | hle := lt_or_ge (s.slots[i].eg.rr : Int) s.slots[i].eg.volume
    · obtain ⟨hloop, heg⟩ := hfalls hlt
      generalize s.tick e = u at hrun hloop heg
      have hrest := ih hloop (by rw [heg]; exact hstate) (by rw [heg]; dsimp only; omega) hrun
      rw [heg] at hrest
      dsimp only at hrest
      obtain ⟨hplays, hstops⟩ := hrest
      refine ⟨fun hn => ?_, fun hn => hstops (by omega)⟩
      obtain ⟨hactive, hrelease, hvolume⟩ := hplays (by omega)
      exact ⟨hactive, hrelease, by omega⟩
    · obtain ⟨hinactive, heg⟩ := hends hle
      have hidle : (s.tick e).runs i = false := by rw [State.runs, hinactive, Bool.false_and]
      have hstays := ticks_idle hidle hrun
      have hnonneg : (0 : Int) ≤ ticks.length * s.slots[i].eg.rr := by positivity
      rw [hstays, hinactive, heg]
      exact ⟨fun hn => by omega, fun _ => ⟨rfl, hstate, rfl⟩⟩

/-! ### Attack -/

/-- A TICK of an ATTACK without the loop link rises by `ar` up to full level (R155). -/
theorem tick_attack {s : State} {i : Fin 64} (efreg : List Word) (h : Looping s i)
    (hstate : s.slots[i].eg.state = .attack) (hlink : s.lpslnk i = false) :
    let x := s.slots[i].eg
    (x.volume + x.ar < maxVolume s.params.egFrac →
        Looping (s.tick efreg) i ∧ (s.tick efreg).slots[i].eg = { x with volume := x.volume + x.ar }) ∧
      (maxVolume s.params.egFrac ≤ x.volume + x.ar → (s.tick efreg).slots[i].eg.volume = maxVolume s.params.egFrac) := by
  obtain ⟨heg, -, hplays⟩ := tick_looping efreg h fun _ => hlink
  have huse : egUse s i = egAttack s.params (s.lpslnk i) s.slots[i].eg := by rw [egUse, egUpdate, hstate]
  rw [huse] at heg hplays
  intro x
  constructor
  · intro hlt
    refine ⟨hplays rfl, ?_⟩
    have hbelow : decide (maxVolume s.params.egFrac ≤ x.volume + x.ar) = false := decide_eq_false (not_le.mpr hlt)
    rw [heg, egAttack]
    dsimp only
    rw [hbelow, ← hstate]
    rfl
  · intro hle
    rw [heg, egAttack]
    exact if_pos (decide_eq_true hle)

/-- An ATTACK without the loop link over a run of TICKs, by induction on the run (R165). -/
theorem ticks_attack {s t : State} {i : Fin 64} {ticks : List (List Word)} (h : Looping s i)
    (hstate : s.slots[i].eg.state = .attack) (hlink : s.lpslnk i = false)
    (hrun : runOps (ticks.map Instr.tick) s = .next t) :
    let x := s.slots[i].eg
    let y := t.slots[i].eg
    let n : Int := ticks.length
    let full := maxVolume s.params.egFrac
    (x.volume + n * x.ar < full → y.state = .attack ∧ y.volume = x.volume + n * x.ar) ∧
      (full ≤ x.volume + n * x.ar → 0 < n → x.volume + (n - 1) * x.ar < full → y.volume = full) := by
  induction ticks generalizing s with
  | nil =>
    rw [← Host.Outcome.next.inj hrun]
    simp only [List.length_nil, Nat.cast_zero, zero_mul, add_zero]
    exact ⟨fun _ => ⟨hstate, trivial⟩, fun _ hpos => absurd hpos (lt_irrefl 0)⟩
  | cons e ticks ih =>
    obtain ⟨hrises, hends⟩ := tick_attack e h hstate hlink
    rw [runOps_tick_cons] at hrun
    have hnonneg : (0 : Int) ≤ ticks.length * s.slots[i].eg.ar := by positivity
    simp only [List.length_cons, Nat.cast_add, Nat.cast_one, add_mul, one_mul, add_sub_cancel_right]
    obtain hlt | hle := lt_or_ge (s.slots[i].eg.volume + s.slots[i].eg.ar) (maxVolume s.params.egFrac)
    · obtain ⟨hloop, heg⟩ := hrises hlt
      have hlink' : (s.tick e).lpslnk i = false := by
        rw [State.lpslnk, tick_sr_ne s e i (by decide) (by decide)]
        exact hlink
      have hrest := ih hloop (by rw [heg]; exact hstate) hlink' hrun
      rw [heg, tick_params] at hrest
      simp only [sub_mul, one_mul] at hrest
      obtain ⟨hattacks, hfull⟩ := hrest
      refine ⟨fun hn => ?_, fun hn _ hbefore => ?_⟩
      · obtain ⟨hattack, hvolume⟩ := hattacks (by omega)
        exact ⟨hattack, by omega⟩
      · have hmore : 0 < (ticks.length : Int) := by
          rcases ticks with _ | ⟨e', ticks⟩
          · simp only [List.length_nil, Nat.cast_zero, zero_mul] at hn
            omega
          · simp
        exact hfull (by omega) hmore (by omega)
    · refine ⟨fun hn => by omega, fun _ _ hbefore => ?_⟩
      cases ticks with
      | nil =>
        rw [← Host.Outcome.next.inj hrun]
        exact hends hle
      | cons e' ticks =>
        have hmore : (0 : Int) ≤ ticks.length * s.slots[i].eg.ar := by positivity
        simp only [List.length_cons, Nat.cast_add, Nat.cast_one, add_mul, one_mul] at hbefore
        omega

/-! ### The statement -/

/-- Settles O38: both runs, from a slot that loops. -/
theorem envelopeLengths : Obligations.EnvelopeLengths := by
  intro s t j ticks _ hrun hruns hlpctl _
  exact ⟨fun hstate hpos => ticks_release ⟨hruns, hlpctl⟩ hstate hpos hrun,
    fun hstate hlink => ticks_attack ⟨hruns, hlpctl⟩ hstate hlink hrun⟩

end Sys2Proof.Proofs
end

section
/-! The envelope that key-on latches from words 0x10, 0x14 and 0x18 (R153). -/

namespace Sys2Proof.Proofs

open Sys2Proof Sys2Proof.Machine

/-! ### The latched values as functions of the words -/

/-- OCT as a signed field (R87). -/
theorem oct_eq (s : State) (i : Fin 64) : s.oct i = octOf (s.sr i 0x18) := by
  have hoct := sext4_add_eight ((s.sr i 0x18).toNat / 2048 % 16) (Nat.mod_lt _ (by decide))
  have hfield : s.oct i = sext4 ((s.sr i 0x18).toNat / 2048 % 16) := rfl
  unfold octOf
  omega

/-- The rate index of a field of slot `i` is that of its words 0x14 and 0x18 (R153). -/
theorem rateIndex_eq (s : State) (i : Fin 64) (r : Nat) :
    rateIndex (s.keyRateBase i) r = rateOf (s.sr i 0x14) (s.sr i 0x18) r := by
  have hkrs : s.krs i = (s.sr i 0x14).toNat / 1024 % 16 := rfl
  have hfns : s.fns i / 512 = (s.sr i 0x18).toNat / 512 % 2 := by
    have hfield : s.fns i = (s.sr i 0x18).toNat / 1 % 1024 := rfl
    omega
  unfold rateIndex clamp rateOf State.keyRateBase
  rw [oct_eq, hkrs, hfns]
  simp only [ne_eq, ite_not]

theorem ar_eq (s : State) (i : Fin 64) : s.ar i = (s.sr i 0x10).toNat % 32 := by simp [State.ar, bits]

/-- The top field of a word needs no mask. -/
theorem d2r_eq (s : State) (i : Fin 64) : s.d2r i = (s.sr i 0x10).toNat / 2048 := by
  have hlt := (s.sr i 0x10).isLt
  have hfield : s.d2r i = (s.sr i 0x10).toNat / 2048 % 32 := rfl
  omega

theorem eghold_eq (s : State) (i : Fin 64) : s.eghold i = ((s.sr i 0x10).toNat / 32 % 2 == 1) := by
  rw [State.eghold, BitVec.getLsbD, Nat.testBit_eq_decide_div_mod_eq]
  rfl

/-- `ComputeEG` latches the rates, the threshold and EGHOLD from words 0x10, 0x14 and 0x18, and the starting volume (R153). -/
theorem computeEg_word (s : State) (i : Fin 64) (e : Eg) :
    s.computeEg i e =
      let p := s.params
      let w10 := (s.sr i 0x10).toNat
      let w14 := s.sr i 0x14
      let w18 := s.sr i 0x18
      { state := e.state
        volume := 0x17F * 2 ^ p.egFrac.bits
        ar := p.arEntry (rateOf w14 w18 (w10 % 32))
        d1r := p.drEntry (rateOf w14 w18 (w10 / 64 % 32))
        d2r := p.drEntry (rateOf w14 w18 (w10 / 2048))
        rr := p.drEntry (rateOf w14 w18 (w14.toNat % 32))
        dl := BitVec.ofNat 5 (0x1F - w14.toNat / 32 % 32)
        hold := w10 / 32 % 2 == 1 } := by
  unfold State.computeEg
  simp only [rateIndex_eq, ar_eq, d2r_eq, rr_eq, eghold_eq, dlThreshold_eq]
  rfl

/-! ### The statement -/

theorem startedSlot_eg (s : State) (i : Fin 64) (cache : Predictor) :
    (startedSlot s i cache).eg = { s.computeEg i s.slots[i].eg with state := .attack } :=
  congrArg Slot.eg (startedSlot_eq s i cache)

/-- Settles O22: the envelope latched in the state that the store left, whose words 0x10, 0x14 and 0x18 are those before. -/
theorem keyOnEnvelope : Obligations.KeyOnEnvelope := by
  intro i j v m s t hm hwf hkyonex hstarts hexec
  obtain rfl : ((controlStored s i v m).keyExecute i).ret .none = t :=
    Host.Outcome.next.inj ((exec_slotCtrl s i v hm).symm.trans hexec)
  have hexecutes := (controlStored_kyonex i v hm hwf i).trans hkyonex
  obtain ⟨cache, hslot, -⟩ := keyScan_scanned (controlStored_wf i v m hwf) j
  rw [scannedSlot_starts cache ((scanStarts_iff i v hm hwf j).mpr hstarts)] at hslot
  rw [State.ret_slots, keyExecute_slots hexecutes, hslot, startedSlot_eg, computeEg_word,
    controlStored_sr_ne s i j v m (o := 0x10) (by decide) (by decide),
    controlStored_sr_ne s i j v m (o := 0x14) (by decide) (by decide),
    controlStored_sr_ne s i j v m (o := 0x18) (by decide) (by decide)]
  rfl

end Sys2Proof.Proofs
end

section
/-! A slot's address in a TICK: advance, wrap and stop (R189, R194 to R196, R199). -/

namespace Sys2Proof.Proofs

open Sys2Proof Sys2Proof.Machine

/-! ### Advance and wrap -/

/-- One loop length back, modulo 2^32 (R196). -/
def loopBack (s : State) (i : Fin 64) : U32 := BitVec.ofNat 32 (s.lsa i * 4096) - BitVec.ofNat 32 (s.lea i * 4096)

theorem wrap_curAddr (s : State) (i : Fin 64) (x : Slot) : (s.wrap i x).curAddr = x.curAddr + loopBack s i := by
  unfold State.wrap loopBack
  dsimp only
  ring

theorem wrap_nxtAddr (s : State) (i : Fin 64) (x : Slot) : (s.wrap i x).nxtAddr = x.nxtAddr + loopBack s i := by
  unfold State.wrap loopBack
  dsimp only
  ring

/-- Where a slot `x` of `s` comes to in a TICK whose pitch LFO has gain `g`: the advance and the wrap, and the words that
they keep (R189, R194, R196). -/
def MovesTo (s : State) (i : Fin 64) (g : Nat) (y : Slot) : Prop :=
  y.prvAddr = s.slots[i].curAddr ∧ y.step = s.slots[i].step ∧
    (Wraps s i g →
      y.curAddr = s.slots[i].advanced g + loopBack s i ∧ y.nxtAddr = s.slots[i].advanced g + 0x1000 + loopBack s i) ∧
    (¬Wraps s i g → y.curAddr = s.slots[i].advanced g ∧ y.nxtAddr = s.slots[i].advanced g + 0x1000)

/-- Loop control on an advanced slot wraps it or leaves it where it is (R196). -/
theorem loopControl_movesTo {s : State} {i : Fin 64} {g : Nat} {x : Slot} (hprv : x.prvAddr = s.slots[i].curAddr)
    (hstep : x.step = s.slots[i].step) (hcur : x.curAddr = s.slots[i].advanced g)
    (hnxt : x.nxtAddr = s.slots[i].advanced g + 0x1000) : MovesTo s i g (s.loopControl i x).1 := by
  have hwraps : Wraps s i g ↔ s.lpctl i = true ∧ s.lea i ≤ x.nxtAddr.toNat / 4096 := by
    rw [hnxt]
    rfl
  rw [loopControl_slot]
  split
  · rename_i hw
    refine ⟨hprv, hstep, fun _ => ?_, fun hn => absurd (hwraps.mpr hw) hn⟩
    rw [wrap_curAddr, wrap_nxtAddr, hcur, hnxt]
    exact ⟨rfl, rfl⟩
  · rename_i hn
    exact ⟨hprv, hstep, fun hw => absurd (hwraps.mp hw) hn, fun _ => ⟨hcur, hnxt⟩⟩

/-! ### The stop -/

/-- A slot without loop whose next index, with gain `g` of the pitch LFO, has come to LSA and LEA (R195). -/
def RunsOut (s : State) (i : Fin 64) (g : Nat) : Prop :=
  s.lpctl i = false ∧ s.lsa i ≤ s.slots[i].nextIndex g ∧ s.lea i ≤ s.slots[i].nextIndex g

theorem loopControl_stop_iff (s : State) (i : Fin 64) (x : Slot) :
    (s.loopControl i x).2 = true ↔
      s.lpctl i = false ∧ s.lsa i ≤ x.nxtAddr.toNat / 4096 ∧ s.lea i ≤ x.nxtAddr.toNat / 4096 := by
  unfold State.loopControl indexOf
  dsimp only
  by_cases h : s.lpctl i = true
  · simp [h]
  · simp [h]

/-- The envelope stops a slot at the end of a RELEASE and in no other way (R159). -/
theorem egUpdate_stop_iff (p : Params) (lpslnk : Bool) (liveD2r : Nat) (e : Eg) :
    (egUpdate p lpslnk liveD2r e).stop = true ↔ e.state = .release ∧ e.volume ≤ e.rr := by
  unfold egUpdate
  cases hstate : e.state with
  | attack => simp [egAttack]
  | decay1 => simp [egDecay1]
  | decay2 => simp [egDecay2]
  | release => simp [egRelease]

theorem linkedEg_release (s : State) (i : Fin 64) (x : Slot) (g : Nat) :
    (linkedEg s i x g).state = .release ↔ x.eg.state = .release := by
  obtain hlink | ⟨-, hattack, hlink⟩ := linkedEg_cases s i x g
  · rw [hlink]
  · rw [hlink, hattack]
    simp

/-! ### The run -/

/-- Every run of a slot moves the address by one gain of the pitch LFO, and stops the slot where it runs out of samples or
its RELEASE ends (R189, R195, R159). -/
theorem slotRun_moves (s : State) (i : Fin 64) :
    ∃ g, s.pitchGainIs i g ∧ MovesTo s i g (s.slotRun i s.slots[i]).slot ∧
      ((s.slotRun i s.slots[i]).stop = true ↔
        RunsOut s i g ∨ s.slots[i].eg.state = .release ∧ s.slots[i].eg.volume ≤ s.slots[i].eg.rr) := by
  obtain ⟨⟨g, hg, hstep⟩, -⟩ := s.pitchUse_cases i s.draws
  have hcur : (runMoved s i).curAddr = s.slots[i].advanced g := by
    rw [runMoved, hstep]
    rfl
  have hnxt : (runMoved s i).nxtAddr = s.slots[i].advanced g + 0x1000 := by
    rw [runMoved, hstep]
    rfl
  have heg : (runMoved s i).eg = linkedEg s i s.slots[i] g := by
    rw [runMoved, hstep]
    rfl
  have hmoves : MovesTo s i g (s.loopControl i (runMoved s i)).1 := loopControl_movesTo rfl rfl hcur hnxt
  refine ⟨g, hg, hmoves, ?_⟩
  rw [slotRun_stop, Bool.or_eq_true, loopControl_stop_iff, egUpdate_stop_iff, heg, linkedEg_release, hnxt]
  rfl

/-- A TICK moves a slot that runs as its run does; the slot stops where it runs out of samples or its RELEASE ends, and its
KYONB is cleared then (R160, R199). -/
theorem tick_moves {s : State} {i : Fin 64} (efreg : List Word) (hruns : s.runs i = true) :
    ∃ g, s.pitchGainIs i g ∧ MovesTo s i g (s.tick efreg).slots[i] ∧
      ((s.tick efreg).slots[i].active = false ↔
        RunsOut s i g ∨ s.slots[i].eg.state = .release ∧ s.slots[i].eg.volume ≤ s.slots[i].eg.rr) ∧
      ((s.tick efreg).slots[i].active = false → RegFile.wf s.regs = true →
        (s.tick efreg).sr i 0x00 = s.sr i 0x00 &&& 0xBFFF) := by
  obtain ⟨d, hslot, -, hstops⟩ := tick_run efreg hruns
  obtain ⟨g, hg, hmoves, hstop⟩ : ∃ g, s.pitchGainIs i g ∧ MovesTo s i g (runFrom s i d).slot ∧
      ((runFrom s i d).stop = true ↔
        RunsOut s i g ∨ s.slots[i].eg.state = .release ∧ s.slots[i].eg.volume ≤ s.slots[i].eg.rr) :=
    slotRun_moves (s.setDraws d) i
  have hactive : (runFrom s i d).slot.active = true :=
    (slotRun_active (s.setDraws d) i).trans ((runs_iff s i).mp hruns).1
  have hinactive : (s.tick efreg).slots[i].active = false ↔ (runFrom s i d).stop = true := by
    rw [hslot]
    split
    · simp [*]
    · simp [*]
  refine ⟨g, hg, ?_, hinactive.trans hstop, fun h => hstops (hinactive.mp h)⟩
  rw [hslot]
  split <;> exact hmoves

/-! ### The statement -/

/-- Settles O39: the moves of the slot's run, and the stop that clears KYONB. -/
theorem tickAddress : Obligations.TickAddress := by
  intro e s t j hwf hexec hruns
  obtain rfl : s.tick e = t := Host.Outcome.next.inj hexec
  obtain ⟨g, hg, ⟨hprv, hstep, hwraps, hstays⟩, hinactive, hclears⟩ := tick_moves e hruns
  refine ⟨g, hg, hprv, hstep, ?_, hinactive, fun hstopped => ?_⟩
  · split
    · exact hwraps ‹_›
    · exact hstays ‹_›
  · have hword : (s.tick e).reg (j.val * 0x80) = s.sr j 0x00 &&& 0xBFFF := hclears hstopped hwf
    rw [hword]
    simp

end Sys2Proof.Proofs
end

section
/-! The loop bounds, over every run of TICKs of a looping slot whose pitch LFO is off (R200). -/

namespace Sys2Proof.Proofs

open Sys2Proof Sys2Proof.Machine

/-! ### Looping on -/

/-- A looping slot that a TICK leaves active goes on looping. -/
theorem tick_looping_of_active {s : State} {i : Fin 64} (efreg : List Word) (h : Looping s i)
    (hactive : (s.tick efreg).slots[i].active = true) : Looping (s.tick efreg) i := by
  obtain ⟨d, hslot, hgoes, -⟩ := tick_run efreg h.runs
  refine tick_keeps_looping efreg h hactive (hgoes (Bool.eq_false_iff.mpr fun hstop => ?_))
  rw [hslot, if_pos hstop] at hactive
  exact Bool.false_ne_true hactive

/-! ### One loop step in numbers -/

theorem pitchGainIs_off {s : State} {i : Fin 64} {g : Nat} (h : s.plfos i = 0) : s.pitchGainIs i g ↔ g = 4096 := by
  unfold State.pitchGainIs
  simp only [h, if_true]

/-- With the pitch LFO off a TICK advances by the latched step (R189). -/
theorem advanced_unity (x : Slot) : x.advanced 4096 = x.curAddr + x.step := by
  rw [Slot.advanced, Nat.mul_div_cancel _ (by decide), BitVec.ofNat_toNat, BitVec.setWidth_eq]

/-- A next address below LEA moves by a step of at most the loop length, in the 32 bits it has (R194, R200). -/
theorem next_advanced {lsa lea : Nat} {nxt step : U32} (hlea : lea < 65536) (hstep : step.toNat ≤ (lea - lsa) * 4096)
    (hbelow : nxt.toNat / 4096 < lea) : (nxt + step).toNat = nxt.toNat + step.toNat := by
  rw [BitVec.toNat_add]
  omega

/-- A next address that such a step takes to LEA or above goes back by the loop length, in the 32 bits it has (R196, R200). -/
theorem next_wrapped {lsa lea : Nat} {nxt step : U32} (hlt : lsa < lea) (hlea : lea < 65536)
    (hstep : step.toNat ≤ (lea - lsa) * 4096) (hbelow : nxt.toNat / 4096 < lea)
    (hwraps : lea ≤ (nxt + step).toNat / 4096) :
    (nxt + step + (BitVec.ofNat 32 (lsa * 4096) - BitVec.ofNat 32 (lea * 4096))).toNat + lea * 4096 =
      nxt.toNat + step.toNat + lsa * 4096 := by
  have hsum := next_advanced hlea hstep hbelow
  rw [hsum] at hwraps
  rw [BitVec.toNat_add, hsum, BitVec.toNat_sub, BitVec.toNat_ofNat, BitVec.toNat_ofNat]
  omega

theorem lea_lt (s : State) (i : Fin 64) : s.lea i < 65536 := (s.sr i 0x0C).isLt

/-! ### One TICK -/

/-- What R200 asks of a looping slot: no pitch LFO, and a step of at most the loop length; and its bound: the next index,
one after the current one, lies below LEA. -/
structure InLoop (s : State) (i : Fin 64) : Prop where
  plfos : s.plfos i = 0
  bounds : s.lsa i < s.lea i
  step : s.slots[i].step.toNat ≤ (s.lea i - s.lsa i) * 4096
  follows : s.slots[i].nxtAddr = s.slots[i].curAddr + 0x1000
  below : s.slots[i].nxtAddr.toNat / 4096 < s.lea i

theorem tick_plfos (s : State) (efreg : List Word) (i : Fin 64) : (s.tick efreg).plfos i = s.plfos i :=
  congrArg (bits · 7 5) (tick_sr_ne s efreg i (by decide) (by decide))

theorem tick_lsa (s : State) (efreg : List Word) (i : Fin 64) : (s.tick efreg).lsa i = s.lsa i :=
  congrArg BitVec.toNat (tick_sr_ne s efreg i (by decide) (by decide))

theorem tick_lea (s : State) (efreg : List Word) (i : Fin 64) : (s.tick efreg).lea i = s.lea i :=
  congrArg BitVec.toNat (tick_sr_ne s efreg i (by decide) (by decide))

/-- The next index has come to LSA. -/
def Entered (s : State) (i : Fin 64) : Prop := s.lsa i ≤ s.slots[i].nxtAddr.toNat / 4096

/-- A looping slot's next address after a TICK with the pitch LFO off: one step on, or back in the loop (R196). -/
theorem tick_nxtAddr {s : State} {i : Fin 64} (efreg : List Word) (hloop : Looping s i) (h : InLoop s i) :
    let y := (s.tick efreg).slots[i]
    let next := s.slots[i].nxtAddr.toNat + s.slots[i].step.toNat
    s.slots[i].nextIndex 4096 = next / 4096 ∧ y.step = s.slots[i].step ∧ y.nxtAddr = y.curAddr + 0x1000 ∧
      (next / 4096 < s.lea i → y.nxtAddr.toNat = next) ∧
      (s.lea i ≤ next / 4096 → y.nxtAddr.toNat + s.lea i * 4096 = next + s.lsa i * 4096) := by
  obtain ⟨g, hg, ⟨-, hstep, hmovesBack, hmovesOn⟩, -⟩ := tick_moves efreg hloop.runs
  obtain rfl := (pitchGainIs_off h.plfos).mp hg
  have hnext : s.slots[i].advanced 4096 + 0x1000 = s.slots[i].nxtAddr + s.slots[i].step := by
    rw [advanced_unity, h.follows]
    ring
  have hsum := next_advanced (lea_lt s i) h.step h.below
  have hindex : s.slots[i].nextIndex 4096 = (s.slots[i].nxtAddr.toNat + s.slots[i].step.toNat) / 4096 := by
    rw [Slot.nextIndex, hnext, hsum]
  have hwraps : Wraps s i 4096 ↔ s.lea i ≤ (s.slots[i].nxtAddr.toNat + s.slots[i].step.toNat) / 4096 := by
    rw [Wraps, hindex]
    exact and_iff_right hloop.lpctl
  intro y next
  refine ⟨hindex, hstep, ?_, fun hlt => ?_, fun hle => ?_⟩
  · by_cases hw : Wraps s i 4096
    · obtain ⟨hcur, hnxt⟩ := hmovesBack hw
      rw [hcur, hnxt]
      ring
    · obtain ⟨hcur, hnxt⟩ := hmovesOn hw
      rw [hcur, hnxt]
  · obtain ⟨-, hnxt⟩ := hmovesOn fun hw => absurd (hwraps.mp hw) (not_le.mpr hlt)
    rw [hnxt, hnext, hsum]
  · obtain ⟨-, hnxt⟩ := hmovesBack (hwraps.mpr hle)
    rw [hnxt, hnext]
    exact next_wrapped h.bounds (lea_lt s i) h.step h.below (by rwa [hsum])

/-- A TICK keeps a looping slot below LEA; its next index stays at LSA or above once there, and a wrap takes it there. -/
theorem tick_inLoop {s : State} {i : Fin 64} (efreg : List Word) (hloop : Looping s i) (h : InLoop s i) :
    InLoop (s.tick efreg) i ∧ (Entered s i → Entered (s.tick efreg) i) ∧
      (s.lea i ≤ s.slots[i].nextIndex 4096 → Entered (s.tick efreg) i) := by
  obtain ⟨hindex, hstep, hfollows, hadvances, hwraps⟩ := tick_nxtAddr efreg hloop h
  have hbounds := h.bounds
  have hle := h.step
  have hbelow := h.below
  unfold Entered
  rw [tick_lsa, hindex]
  refine ⟨⟨?_, ?_, ?_, hfollows, ?_⟩, fun hentered => ?_, fun hw => ?_⟩
  · rw [tick_plfos, h.plfos]
  · rwa [tick_lsa, tick_lea]
  · rwa [hstep, tick_lsa, tick_lea]
  · rw [tick_lea]
    omega
  · omega
  · omega

/-! ### Every run of TICKs -/

/-- The loop bounds by induction on the run of TICKs; a slot that stops stays where it is (R200, R181). -/
theorem ticks_inLoop {s t : State} {i : Fin 64} {ticks : List (List Word)} (hloop : Looping s i) (h : InLoop s i)
    (hrun : runOps (ticks.map Instr.tick) s = .next t) :
    t.slots[i].nxtAddr = t.slots[i].curAddr + 0x1000 ∧ t.slots[i].nxtAddr.toNat / 4096 < s.lea i ∧
      (Entered s i → s.lsa i ≤ t.slots[i].nxtAddr.toNat / 4096) ∧
      (s.lea i ≤ s.slots[i].nextIndex 4096 → ticks ≠ [] → s.lsa i ≤ t.slots[i].nxtAddr.toNat / 4096) := by
  induction ticks generalizing s with
  | nil =>
    rw [← Host.Outcome.next.inj hrun]
    exact ⟨h.follows, h.below, id, fun _ hne => absurd rfl hne⟩
  | cons e ticks ih =>
    rw [runOps_tick_cons] at hrun
    obtain ⟨hin, hstays, henters⟩ := tick_inLoop e hloop h
    obtain ⟨hfollows, hbelow, hkeeps⟩ : t.slots[i].nxtAddr = t.slots[i].curAddr + 0x1000 ∧
        t.slots[i].nxtAddr.toNat / 4096 < (s.tick e).lea i ∧
        (Entered (s.tick e) i → (s.tick e).lsa i ≤ t.slots[i].nxtAddr.toNat / 4096) := by
      cases hruns : (s.tick e).runs i with
      | false =>
        rw [ticks_idle hruns hrun]
        exact ⟨hin.follows, hin.below, id⟩
      | true =>
        obtain ⟨hfollows, hbelow, hkeeps, -⟩ :=
          ih (tick_looping_of_active e hloop ((runs_iff _ i).mp hruns).1) hin hrun
        exact ⟨hfollows, hbelow, hkeeps⟩
    rw [tick_lea] at hbelow
    rw [tick_lsa] at hkeeps
    exact ⟨hfollows, hbelow, fun hentered => hkeeps (hstays hentered), fun hw _ => hkeeps (henters hw)⟩

/-- Settles O44, by induction on the run of TICKs. -/
theorem loopBounds : Obligations.LoopBounds := by
  intro s t j ticks _ hrun hruns hlpctl hplfos hbounds hstep hfollows hbelow
  exact ticks_inLoop ⟨hruns, hlpctl⟩ ⟨hplfos, hbounds, hstep, hfollows, hbelow⟩ hrun

end Sys2Proof.Proofs
end

section
/-! The envelope in a TICK, state by state (R155 to R159, R162). -/

namespace Sys2Proof.Proofs

open Sys2Proof Sys2Proof.Machine

/-! ### The thresholds -/

/-- A volume has fallen below the decay threshold of `e`: its upper bits are at most the latched threshold (R157). -/
def Crossed (p : Params) (e : Eg) (v : Int) : Prop := v < (e.dl.toNat + 1) * 32 * 2 ^ p.egFrac.bits

/-- The comparison of R157 on a volume shifted right by `EG_FRAC + 5`. -/
theorem sar_le_dl_iff (p : Params) (e : Eg) (v : Int) : sar v (p.egFrac.bits + 5) ≤ e.dl.toNat ↔ Crossed p e v := by
  have hpos : (0 : Int) < 2 ^ (p.egFrac.bits + 5) := by positivity
  have hscale : ((e.dl.toNat : Int) + 1) * 2 ^ (p.egFrac.bits + 5) = (e.dl.toNat + 1) * 32 * 2 ^ p.egFrac.bits := by
    ring
  rw [sar, Crossed, ← Int.lt_add_one_iff, Int.ediv_lt_iff_lt_mul hpos, hscale]

/-- R162's test by the document: one DECAY1 step from full level crosses the threshold. -/
theorem skipDecay1_doc {p : Params} {e : Eg} (h : p.skipD1 = .doc) :
    skipDecay1 p e = true ↔ Crossed p e (max 0 (maxVolume p.egFrac - e.d1r)) := by
  rw [skipDecay1, h, ← sar_le_dl_iff]
  exact decide_eq_true_iff

/-- R162's test by the reference: the DECAY1 step is the whole range and DECAY2 falls. -/
theorem skipDecay1_reference {p : Params} {e : Eg} (h : p.skipD1 = .reference) :
    skipDecay1 p e = true ↔ 1024 * 2 ^ p.egFrac.bits ≤ (e.d1r : Int) ∧ e.d2r ≠ 0 := by
  rw [skipDecay1, h]
  simp only [Bool.and_eq_true, decide_eq_true_eq, bne_iff_ne]
  norm_cast

/-! ### The update by state -/

/-- The envelope's update writes the stage and the volume alone. -/
theorem egUpdate_frame (p : Params) (lpslnk : Bool) (liveD2r : Nat) (e : Eg) :
    (egUpdate p lpslnk liveD2r e).eg =
      { e with
        state := (egUpdate p lpslnk liveD2r e).eg.state
        volume := (egUpdate p lpslnk liveD2r e).eg.volume } := by
  unfold egUpdate
  cases e.state <;> rfl

theorem egUpdate_attack {p : Params} {lpslnk : Bool} {liveD2r : Nat} {e : Eg} (h : e.state = .attack) :
    egUpdate p lpslnk liveD2r e = egAttack p lpslnk e := by
  unfold egUpdate
  rw [h]

theorem egUpdate_decay1 {p : Params} {lpslnk : Bool} {liveD2r : Nat} {e : Eg} (h : e.state = .decay1) :
    egUpdate p lpslnk liveD2r e = egDecay1 p e := by
  unfold egUpdate
  rw [h]

theorem egUpdate_decay2 {p : Params} {lpslnk : Bool} {liveD2r : Nat} {e : Eg} (h : e.state = .decay2) :
    egUpdate p lpslnk liveD2r e = egDecay2 p liveD2r e := by
  unfold egUpdate
  rw [h]

theorem egUpdate_release {p : Params} {lpslnk : Bool} {liveD2r : Nat} {e : Eg} (h : e.state = .release) :
    egUpdate p lpslnk liveD2r e = egRelease p e := by
  unfold egUpdate
  rw [h]

theorem egAttack_volume_eq (p : Params) (lpslnk : Bool) (e : Eg) :
    (egAttack p lpslnk e).eg.volume = min (e.volume + e.ar) (maxVolume p.egFrac) := by
  unfold egAttack
  simp only [decide_eq_true_eq]
  split <;> omega

/-- An ATTACK below full level, one without a DECAY1 step, and one with LPSLNK go on (R155, R156). -/
theorem egAttack_goesOn {p : Params} {lpslnk : Bool} {e : Eg}
    (h : e.volume + e.ar < maxVolume p.egFrac ∨ e.d1r = 0 ∨ lpslnk = true) :
    (egAttack p lpslnk e).eg.state = .attack := by
  refine if_neg fun hends => ?_
  simp only [Bool.and_eq_true, decide_eq_true_eq, Bool.not_eq_true', bne_iff_ne, ne_eq] at hends
  obtain ⟨⟨hfull, hlink⟩, hd1r⟩ := hends
  obtain hbelow | hzero | hlinked := h
  · omega
  · exact hd1r hzero
  · exact Bool.false_ne_true (hlink.symm.trans hlinked)

/-- An ATTACK that comes to full level ends in DECAY2 where R162 skips DECAY1, and else in DECAY1 (R155). -/
theorem egAttack_ends {p : Params} {e : Eg} (hfull : maxVolume p.egFrac ≤ e.volume + e.ar) (hd1r : e.d1r ≠ 0) :
    (egAttack p false e).eg.state = if skipDecay1 p e = true then .decay2 else .decay1 := by
  refine if_pos ?_
  simp [hfull, hd1r]

theorem egDecay1_state (p : Params) (e : Eg) :
    (Crossed p e (egDecay1 p e).eg.volume → (egDecay1 p e).eg.state = .decay2) ∧
      (¬Crossed p e (egDecay1 p e).eg.volume → (egDecay1 p e).eg.state = .decay1) :=
  ⟨fun h => if_pos ((sar_le_dl_iff p e _).mpr h), fun h => if_neg fun hle => h ((sar_le_dl_iff p e _).mp hle)⟩

theorem egRelease_volume_eq (p : Params) (e : Eg) : (egRelease p e).eg.volume = max 0 (e.volume - e.rr) := by
  unfold egRelease
  dsimp only
  split <;> omega

/-! ### What the statement says of a move -/

/-- R155 and R162: an envelope `x` in ATTACK that goes on to `y`. -/
def AttackMove (p : Params) (lpslnk : Bool) (x y : Eg) : Prop :=
  y.volume = min (x.volume + x.ar) (maxVolume p.egFrac) ∧
    (x.volume + x.ar < maxVolume p.egFrac ∨ x.d1r = 0 ∨ lpslnk = true → y.state = .attack) ∧
    (maxVolume p.egFrac ≤ x.volume + x.ar → x.d1r ≠ 0 → lpslnk = false →
      (p.skipD1 = .doc → Crossed p x (max 0 (maxVolume p.egFrac - x.d1r)) → y.state = .decay2) ∧
      (p.skipD1 = .doc → ¬Crossed p x (max 0 (maxVolume p.egFrac - x.d1r)) → y.state = .decay1) ∧
      (p.skipD1 = .reference → 1024 * 2 ^ p.egFrac.bits ≤ (x.d1r : Int) → x.d2r ≠ 0 → y.state = .decay2) ∧
      (p.skipD1 = .reference → ¬(1024 * 2 ^ p.egFrac.bits ≤ (x.d1r : Int) ∧ x.d2r ≠ 0) → y.state = .decay1))

/-- R157: an envelope `x` in DECAY1, or in a linked ATTACK, that goes on to `y`. -/
def Decay1Move (p : Params) (x y : Eg) : Prop :=
  y.volume = max 0 (x.volume - x.d1r) ∧ (Crossed p x y.volume → y.state = .decay2) ∧
    (¬Crossed p x y.volume → y.state = .decay1)

theorem egAttack_move (p : Params) (lpslnk : Bool) (e : Eg) : AttackMove p lpslnk e (egAttack p lpslnk e).eg := by
  refine ⟨egAttack_volume_eq p lpslnk e, egAttack_goesOn, ?_⟩
  rintro hfull hd1r rfl
  rw [egAttack_ends hfull hd1r]
  refine ⟨fun hdoc hcross => ?_, fun hdoc hcross => ?_, fun href hstep hd2r => ?_, fun href hother => ?_⟩
  · exact if_pos ((skipDecay1_doc hdoc).mpr hcross)
  · exact if_neg fun hskip => hcross ((skipDecay1_doc hdoc).mp hskip)
  · exact if_pos ((skipDecay1_reference href).mpr ⟨hstep, hd2r⟩)
  · exact if_neg fun hskip => hother ((skipDecay1_reference href).mp hskip)

theorem egDecay1_move (p : Params) (e : Eg) : Decay1Move p e (egDecay1 p e).eg := ⟨rfl, egDecay1_state p e⟩

/-! ### The loop link -/

theorem linkedEg_of_linked {s : State} {i : Fin 64} {g : Nat} (hattack : s.slots[i].eg.state = .attack)
    (h : Linked s i g) : linkedEg s i s.slots[i] g = { s.slots[i].eg with state := .decay1 } := by
  obtain ⟨hlpslnk, hlsa⟩ := h
  rw [linkedEg, if_pos ⟨hlsa, hlpslnk, hattack⟩]

theorem linkedEg_of_not_linked {s : State} {i : Fin 64} {g : Nat} (h : s.slots[i].eg.state = .attack → ¬Linked s i g) :
    linkedEg s i s.slots[i] g = s.slots[i].eg := by
  rw [linkedEg, if_neg fun hl => h hl.2.2 ⟨hl.2.1, hl.1⟩]

/-! ### The TICK by state -/

/-- What a TICK makes of slot `i`'s envelope, by the stage before it: an ATTACK with LPSLNK moves as DECAY1 once the address
has come to LSA (R155 to R159). -/
structure EgMove (s : State) (i : Fin 64) (y : Eg) : Prop where
  frame : y = { s.slots[i].eg with state := y.state, volume := y.volume }
  attack : s.slots[i].eg.state = .attack → s.lpslnk i = false → AttackMove s.params (s.lpslnk i) s.slots[i].eg y
  linked : s.slots[i].eg.state = .attack → s.lpslnk i = true →
    ∃ g, s.pitchGainIs i g ∧
      if s.lsa i ≤ (s.slots[i].advanced g).toNat / 4096 then Decay1Move s.params s.slots[i].eg y
      else AttackMove s.params (s.lpslnk i) s.slots[i].eg y
  decay1 : s.slots[i].eg.state = .decay1 → Decay1Move s.params s.slots[i].eg y
  decay2 : s.slots[i].eg.state = .decay2 → y = (egDecay2 s.params (s.d2r i) s.slots[i].eg).eg
  release : s.slots[i].eg.state = .release → y = (egRelease s.params s.slots[i].eg).eg

/-- The update after the loop link is such a move. -/
theorem egUpdate_linkedEg_move {s : State} {i : Fin 64} {g : Nat} (hg : s.pitchGainIs i g) :
    EgMove s i (egUpdate s.params (s.lpslnk i) (s.d2r i) (linkedEg s i s.slots[i] g)).eg where
  frame := egUpdate_frame _ _ _ _
  attack hattack hlpslnk := by
    rw [linkedEg_of_not_linked fun _ hl => Bool.false_ne_true (hlpslnk.symm.trans hl.1), egUpdate_attack hattack]
    exact egAttack_move _ _ _
  linked hattack hlpslnk := by
    refine ⟨g, hg, ?_⟩
    split
    · rename_i hlsa
      rw [linkedEg_of_linked hattack ⟨hlpslnk, hlsa⟩, egUpdate_decay1 rfl]
      exact egDecay1_move s.params { s.slots[i].eg with state := .decay1 }
    · rename_i hlsa
      rw [linkedEg_of_not_linked fun _ hl => hlsa hl.2, egUpdate_attack hattack]
      exact egAttack_move _ _ _
  decay1 hdecay := by
    rw [linkedEg_of_not_linked fun hattack => absurd (hdecay.symm.trans hattack) (by decide), egUpdate_decay1 hdecay]
    exact egDecay1_move _ _
  decay2 hdecay := by
    rw [linkedEg_of_not_linked fun hattack => absurd (hdecay.symm.trans hattack) (by decide), egUpdate_decay2 hdecay]
  release hrelease := by
    rw [linkedEg_of_not_linked fun hattack => absurd (hrelease.symm.trans hattack) (by decide),
      egUpdate_release hrelease]

theorem tick_egMove {s : State} {i : Fin 64} (efreg : List Word) (hruns : s.runs i = true) :
    EgMove s i (s.tick efreg).slots[i].eg := by
  obtain ⟨g, hg, heg⟩ := tick_eg efreg hruns
  rw [heg]
  exact egUpdate_linkedEg_move hg

/-! ### The statement -/

/-- Settles O36: the move of a TICK by the stage before it; a RELEASE that ends stops the slot as O39 says. -/
theorem tickEnvelope : Obligations.TickEnvelope := by
  intro e s t hwf hexec j hruns
  have htick : s.tick e = t := Host.Outcome.next.inj hexec
  obtain ⟨_, -, -, -, -, hinactive, hclears⟩ := tickAddress e s t j hwf hexec hruns
  have hmove := tick_egMove e hruns
  rw [htick] at hmove
  refine ⟨hmove.frame, ?_⟩
  cases hstate : s.slots[j].eg.state with
  | attack => exact ⟨hmove.attack hstate, hmove.linked hstate⟩
  | decay1 => exact hmove.decay1 hstate
  | decay2 =>
    rw [hmove.decay2 hstate]
    exact ⟨hstate, rfl⟩
  | release =>
    rw [hmove.release hstate]
    refine ⟨hstate, egRelease_volume_eq _ _, fun hends => ?_⟩
    have hstopped := hinactive.mpr (.inr ⟨hstate, hends⟩)
    exact ⟨hstopped, hclears hstopped⟩

end Sys2Proof.Proofs
end

section
/-! Interpolation (R188), and one step of the ADPCM decoder (R191 to R193). -/

namespace Sys2Proof.Proofs

open Sys2Proof Sys2Proof.Machine

/-! ### Interpolation -/

/-- The floor of a weighted mean of two values, with weights that sum to `n`, lies between them. -/
theorem weightedMean_between {cur nxt f n : Int} (hlo : 0 ≤ f) (hhi : f ≤ n) (hn : 0 < n) :
    min cur nxt ≤ (cur * (n - f) + nxt * f) / n ∧ (cur * (n - f) + nxt * f) / n ≤ max cur nxt := by
  have hrest : 0 ≤ n - f := by omega
  constructor
  · have hcur := mul_le_mul_of_nonneg_right (min_le_left cur nxt) hrest
    have hnxt := mul_le_mul_of_nonneg_right (min_le_right cur nxt) hlo
    rw [Int.le_ediv_iff_mul_le hn]
    linarith
  · have hcur := mul_le_mul_of_nonneg_right (le_max_left cur nxt) hrest
    have hnxt := mul_le_mul_of_nonneg_right (le_max_right cur nxt) hlo
    refine Int.ediv_le_of_le_mul hn ?_
    linarith

/-- Settles O43: the shift is a floored division, and the weights sum to 4096. -/
theorem interpolationBetween : Obligations.InterpolationBetween := by
  intro c cur nxt f x
  have hx : x = (cur * (4096 - f) + nxt * f) / 4096 := interpolate_eq c cur nxt
  have hf : 0 ≤ f ∧ f ≤ 4096 := by omega
  obtain ⟨hmin, hmax⟩ := weightedMean_between (cur := cur) (nxt := nxt) hf.1 hf.2 (by decide)
  rw [← hx] at hmin hmax
  exact ⟨by omega, by omega, hmin, hmax, fun hlo hhi => ⟨hlo.trans hmin, hmax.trans hhi⟩⟩

/-! ### The decoder's step -/

theorem adpcmStep_sample (t : Params) (p : Predictor) (d : Nat) :
    (adpcmStep t p d).sample = max (-32768) (min 32767 (p.sample + (p.quant * t.quantMul d).tdiv 8)) := by
  unfold adpcmStep clip16 clamp
  dsimp only
  omega

theorem adpcmStep_quant (t : Params) (p : Predictor) (d : Nat) :
    (adpcmStep t p d).quant = max 0x7F (min 0x6000 (p.quant * t.quantScale (d % 8) / 256)) := by
  unfold adpcmStep
  dsimp only
  omega

section
variable {t : Params}

theorem quantMul_reference (h : t.tables.quantMul = .reference) (d : Nat) : t.quantMul d = Machine.quantMul d := by
  rw [Params.quantMul, h, LookupTable.get_reference]

theorem quantScale_reference (h : t.tables.quantScale = .reference) (d : Nat) : t.quantScale d = Machine.quantScale d := by
  rw [Params.quantScale, h, LookupTable.get_reference]

/-- `QUANT_MUL` gives a nibble's magnitude bits as an odd number, and bit 3 as its sign (R192). -/
theorem quantMul_eq (h : t.tables.quantMul = .reference) (d : Nat) :
    t.quantMul d = (2 * (d % 8 : Nat) + 1 : Int) * (if d < 8 then 1 else -1) := by
  rw [quantMul_reference h, Machine.quantMul]
  split <;> simp

/-- The step's multiplier by the nibble's magnitude (R192). -/
theorem quantScale_of_lt (h : t.tables.quantScale = .reference) {m : Nat} (hm : m < 4) : t.quantScale m = 230 := by
  rw [quantScale_reference h]
  interval_cases m <;> rfl

/-- The predictor moves by at most 15 eighths of the largest step (R193). -/
theorem quantMul_change (h : t.tables.quantMul = .reference) {q : Nat} (d : Nat) (hq : q ≤ 0x6000) :
    -46080 ≤ (q * t.quantMul d).tdiv 8 ∧ (q * t.quantMul d).tdiv 8 ≤ 46080 := by
  have hmul : -15 ≤ t.quantMul d ∧ t.quantMul d ≤ 15 := by
    rw [quantMul_eq h]
    split <;> omega
  have hlo : -368640 ≤ q * t.quantMul d := by nlinarith
  have hhi : q * t.quantMul d ≤ 368640 := by nlinarith
  exact ⟨Int.tdiv_le_tdiv (c := 8) (by decide) hlo, Int.tdiv_le_tdiv (c := 8) (by decide) hhi⟩

end

/-- What R193 says of the step of a running decoder with the reference tables. -/
theorem adpcmStep_quant_reference {t : Params} {p : Predictor} {d : Nat} (h : t.tables.quantScale = .reference)
    (hlo : 0x7F ≤ p.quant) (hhi : p.quant ≤ 0x6000) :
    (d % 8 < 4 → (adpcmStep t p d).quant = max (p.quant * 230 / 256) 0x7F) ∧
      (d % 8 = 4 → (adpcmStep t p d).quant = min (p.quant * 307 / 256) 0x6000) ∧
      (d % 8 = 5 → (adpcmStep t p d).quant = min (p.quant * 409 / 256) 0x6000) ∧
      (d % 8 = 6 → (adpcmStep t p d).quant = min (p.quant * 2) 0x6000) ∧
      (d % 8 = 7 → (adpcmStep t p d).quant = min (p.quant * 614 / 256) 0x6000) := by
  rw [adpcmStep_quant]
  refine ⟨fun hd => ?_, fun hd => ?_, fun hd => ?_, fun hd => ?_, fun hd => ?_⟩
  · rw [quantScale_of_lt h hd]
    omega
  · rw [hd, quantScale_reference h, show Machine.quantScale 4 = 307 from rfl]
    omega
  · rw [hd, quantScale_reference h, show Machine.quantScale 5 = 409 from rfl]
    omega
  · rw [hd, quantScale_reference h, show Machine.quantScale 6 = 512 from rfl]
    omega
  · rw [hd, quantScale_reference h, show Machine.quantScale 7 = 614 from rfl]
    omega

/-- With the reference tables a step is a computation on the predictor and the nibble alone. -/
theorem adpcmStep_reference {t : Params} (hmul : t.tables.quantMul = .reference)
    (hscale : t.tables.quantScale = .reference) (p : Predictor) (d : Nat) :
    adpcmStep t p d =
      { sample := clip16 (p.sample + (p.quant * Machine.quantMul d).tdiv 8)
        quant := min (max (p.quant * Machine.quantScale (d % 8) / 256) 0x7F) 0x6000 } := by
  rw [adpcmStep, quantMul_reference hmul, quantScale_reference hscale]

/-- Settles O42: the step's two formulas, and with the reference tables the cases of a nibble's magnitude. -/
theorem adpcmStepProperties : Obligations.AdpcmStepProperties := by
  refine ⟨fun t p d _ => ⟨adpcmStep_sample t p d, adpcmStep_quant t p d⟩, fun t hmul hscale => ?_⟩
  have hstep := adpcmStep_reference hmul hscale
  refine ⟨fun d _ => quantMul_eq hmul d, ?_, fun p d _ hlo hhi => ?_, ?_, ?_, ?_, ?_⟩
  · rw [show t.quantScale = Machine.quantScale from funext (quantScale_reference hscale)]
    rfl
  · obtain ⟨hsample, hquant⟩ := adpcmStep_inRange t p d
    obtain ⟨hshrink, hgrow4, hgrow5, hgrow6, hgrow7⟩ := adpcmStep_quant_reference (d := d) hscale hlo hhi
    obtain ⟨hdown, hup⟩ := quantMul_change hmul d hhi
    exact ⟨hquant, hsample, hshrink, hgrow4, hgrow5, hgrow6, hgrow7, _, adpcmStep_sample t p d,
      by omega, by omega⟩
  · rw [hstep]; decide
  · rw [hstep]; decide
  · rw [hstep]; decide
  · rw [hstep]; decide

end Sys2Proof.Proofs
end

section
/-! What one use of an LFO gives, and the bounds of its gains with the reference tables (R222 to R224, R227 to R229, R231). -/

namespace Sys2Proof.Proofs

open Sys2Proof Sys2Proof.Machine

/-! ### One use -/

/-- The waveform entry that an LFO's use reads: bits 15:8 of the advanced phase (R220). -/
theorem advance_index_eq (l : Lfo) :
    l.advance.index = Fin.ofNat 256 ((l.phase.toNat + l.phaseStep.toNat) % 65536 / 256) := by
  rw [Lfo.index, Lfo.advance_phase]

theorem pitchUse_off {s : State} {i : Fin 64} (x : Slot) (d : Nat) (h : s.plfos i = 0) :
    s.pitchUse i x d = { stepEff := x.step.toNat, plfo := x.plfo, draws := d } := if_neg (not_not_intro h)

theorem pitchUse_on {s : State} {i : Fin 64} (x : Slot) (d : Nat) (h : s.plfos i ≠ 0) :
    s.pitchUse i x d =
      { stepEff := x.step.toNat * ((s.pitchScale x.plfo.advance d).1 * 16) / 4096
        plfo := x.plfo.advance
        draws := (s.pitchScale x.plfo.advance d).2 } := if_pos h

theorem ampUse_off {s : State} {i : Fin 64} (l : Lfo) (x : Int) (d : Nat) (h : s.alfos i = 0) :
    s.ampUse i l x d = { x := x, alfo := l, draws := d } := if_neg (not_not_intro h)

theorem ampUse_on {s : State} {i : Fin 64} (l : Lfo) (x : Int) (d : Nat) (h : s.alfos i ≠ 0) :
    s.ampUse i l x d =
      { x := x * ((s.ampScale l.advance d).1 * 16) / 4096
        alfo := l.advance
        draws := (s.ampScale l.advance d).2 } := by
  rw [State.ampUse, if_pos h]
  dsimp only [State.ampGain]
  rw [Nat.cast_mul]
  rfl

/-- The scale entry of a waveform value in the row (R227). -/
theorem pitchScale_entry {s : State} {l : Lfo} {v : Int} (d : Nat) (hw : s.pitchWave l.wave l.index = some v)
    (hv : v ≠ 128) : s.pitchScale l d = (s.params.pscales l.depth (v + 128).toNat, d) := by
  have hle := s.pitchWave_le hw
  have hlt : v < 128 := by omega
  simp only [State.pitchScale, hw, if_pos hlt]

/-- Past the row's end the scale entry is a draw (R229). -/
theorem pitchScale_overflow {s : State} {l : Lfo} (d : Nat) (hw : s.pitchWave l.wave l.index = some 128) :
    s.pitchScale l d = ((Config.drawScale d).toNat, d + 1) := by
  simp only [State.pitchScale, hw, lt_irrefl, if_false]

theorem pitchScale_none {s : State} {l : Lfo} (d : Nat) (hw : s.pitchWave l.wave l.index = none) :
    s.pitchScale l d = ((Config.drawScale d).toNat, d + 1) := by
  simp only [State.pitchScale, hw]

theorem ampScale_entry {s : State} {l : Lfo} {v : Nat} (d : Nat) (hw : s.ampWave l.wave l.index = some v) :
    s.ampScale l d = (s.params.ascales l.depth v, d) := by
  simp only [State.ampScale, hw]

theorem ampScale_none {s : State} {l : Lfo} (d : Nat) (hw : s.ampWave l.wave l.index = none) :
    s.ampScale l d = ((Config.drawScale d).toNat, d + 1) := by
  simp only [State.ampScale, hw]

/-! ### The waveforms -/

/-- A waveform byte of a reference table shows the table's value, where it lies in the table's range (R222). -/
theorem toInt_ofInt_byte {v : Int} (hlo : -128 ≤ v) (hhi : v < 128) : (BitVec.ofInt 8 v).toInt = v := by
  rw [BitVec.toInt_ofInt]
  exact Int.bmod_eq_of_le hlo hhi

@[inherit_doc toInt_ofInt_byte]
theorem toNat_ofInt_byte {v : Int} (hlo : 0 ≤ v) (hhi : v < 256) : (BitVec.ofInt 8 v).toNat = v.toNat := by
  rw [BitVec.toNat_ofInt]
  omega

section
variable {p : Params} (h : p.tables = Tables.reference) (n : Fin 256)
include h

theorem pitchSaw_reference : p.pitchSaw n = if (n.val : Int) < 128 then (n.val : Int) else n.val - 256 := by
  have hn := n.isLt
  rw [Params.pitchSaw, h]
  refine (toInt_ofInt_byte ?_ ?_).trans ?_ <;> unfold Machine.pitchSaw <;> omega

theorem pitchSquare_reference : p.pitchSquare n = if (n.val : Int) < 128 then 127 else -128 := by
  rw [Params.pitchSquare, h]
  refine (toInt_ofInt_byte ?_ ?_).trans ?_ <;> unfold Machine.pitchSquare <;> omega

theorem pitchTri_reference :
    p.pitchTri n =
      let k : Int := n.val
      if k < 64 then 2 * k else if k < 128 then 255 - 2 * k else if k < 192 then 256 - 2 * k else 2 * k - 511 := by
  have hn := n.isLt
  rw [Params.pitchTri, h]
  dsimp only
  refine (toInt_ofInt_byte ?_ ?_).trans ?_ <;> unfold Machine.pitchTri <;> omega

theorem ampSaw_reference : p.ampSaw n = 255 - n.val := by
  have hn := n.isLt
  rw [Params.ampSaw, h]
  refine (toNat_ofInt_byte ?_ ?_).trans ?_ <;> unfold Machine.ampSaw <;> omega

theorem ampSquare_reference : p.ampSquare n = if n.val < 128 then 255 else 0 := by
  rw [Params.ampSquare, h]
  refine (toNat_ofInt_byte ?_ ?_).trans ?_ <;> unfold Machine.ampSquare <;> split <;> omega

theorem ampTri_reference : p.ampTri n = if n.val < 128 then 255 - 2 * n.val else 2 * n.val - 256 := by
  have hn := n.isLt
  rw [Params.ampTri, h]
  refine (toNat_ofInt_byte ?_ ?_).trans ?_ <;> unfold Machine.ampTri <;> split <;> omega

end

/-- An amplitude waveform that was computed holds a byte (R222). -/
theorem ampWave_byte (s : State) {w : Wave} (n : Fin 256) (hw : w ≠ .none) :
    ∃ v, v < 256 ∧ s.ampWave w n = some v := by
  cases w with
  | saw => exact ⟨_, BitVec.isLt _, rfl⟩
  | square => exact ⟨_, BitVec.isLt _, rfl⟩
  | tri => exact ⟨_, BitVec.isLt _, rfl⟩
  | noise => exact ⟨_, BitVec.isLt _, rfl⟩
  | none => exact absurd rfl hw

/-- A pitch waveform that was computed stays below 128, but for a NOISE entry of 0 (R222, R229). -/
theorem pitchWave_lt (s : State) {w : Wave} (n : Fin 256) (hw : w ≠ .none) (hnoise : w = .noise → s.noise[n] ≠ 0) :
    ∃ v, v < 128 ∧ s.pitchWave w n = some v := by
  cases w with
  | saw => exact ⟨_, (s.params.pitchSaw_range n).2, rfl⟩
  | square => exact ⟨_, (s.params.pitchSquare_range n).2, rfl⟩
  | tri => exact ⟨_, (s.params.pitchTri_range n).2, rfl⟩
  | noise =>
    have hpos : s.noise[n].toNat ≠ 0 := fun h0 => hnoise rfl (BitVec.eq_of_toNat_eq h0)
    exact ⟨_, by omega, rfl⟩
  | none => exact absurd rfl hw

/-! ### The scale tables -/

/-- The bounds of every run's value are the bounds of every entry of a scale table's row of 256 entries. -/
theorem row_bounds {t : List (Nat × Nat)} {lo hi n : Nat}
    (h : t.all (fun r => decide (lo ≤ r.1) && decide (r.1 ≤ hi)) = true ∧ (t.map Prod.snd).sum = 256) (hn : n < 256) :
    lo ≤ runGet t n ∧ runGet t n ≤ hi := by
  obtain ⟨hvalues, hlength⟩ := h
  exact runGet_bounds n hvalues (hn.trans_eq hlength.symm)

/-- The bounds of the reference PSCALES, row by row (R223). -/
theorem pscales_bounds (d : BitVec 3) {n : Nat} (hn : n < 256) : 192 ≤ pscales d n ∧ pscales d n ≤ 339 := by
  unfold pscales
  split <;> exact row_bounds (by decide +kernel) hn

/-- The bounds of the reference ASCALES, row by row (R224). -/
theorem ascales_bounds (d : BitVec 3) {n : Nat} (hn : n < 256) : 16 ≤ ascales d n ∧ ascales d n ≤ 256 := by
  unfold ascales
  split <;> exact row_bounds (by decide +kernel) hn

/-! ### The statement -/

/-- A gain of 256ths between 0 and 256 takes a sample toward 0, with the floor of R13. -/
theorem scaled_towardZero (x : Int) {a : Nat} (ha : a ≤ 256) :
    (0 ≤ x → 0 ≤ x * (a * 16) / 4096 ∧ x * (a * 16) / 4096 ≤ x) ∧
      (x ≤ 0 → x ≤ x * (a * 16) / 4096 ∧ x * (a * 16) / 4096 ≤ 0) := by
  have ha' : (a : Int) ≤ 256 := by exact_mod_cast ha
  constructor
  · intro hx
    have hlo : 0 ≤ x * (a * 16) := by positivity
    have hhi : x * (a * 16) ≤ x * 4096 := mul_le_mul_of_nonneg_left (by omega) hx
    omega
  · intro hx
    have hlo : x * 4096 ≤ x * (a * 16) := mul_le_mul_of_nonpos_left (by omega) hx
    have hhi : x * (a * 16) ≤ 0 := mul_nonpos_of_nonpos_of_nonneg hx (by positivity)
    omega

/-- A gain of 192 to 339 256ths, on a step (R231). -/
theorem scaled_step (step : Nat) {a : Nat} (hlo : 192 ≤ a) (hhi : a ≤ 339) :
    step * (a * 16) / 4096 * 256 ≤ step * 339 ∧ step * 192 < (step * (a * 16) / 4096 + 1) * 256 := by
  have hup : step * a ≤ step * 339 := Nat.mul_le_mul_left step hhi
  have hdown : step * 192 ≤ step * a := Nat.mul_le_mul_left step hlo
  rw [← mul_assoc]
  omega

theorem ampUse_neverAmplifies {s : State} (i : Fin 64) {l : Lfo} (x : Int) (d : Nat)
    (htables : s.params.tables = Tables.reference) (hw : l.wave ≠ .none) :
    let y := (s.ampUse i l x d).x
    (0 ≤ x → 0 ≤ y ∧ y ≤ x) ∧ (x ≤ 0 → x ≤ y ∧ y ≤ 0) := by
  by_cases h : s.alfos i = 0
  · rw [ampUse_off l x d h]
    exact ⟨fun hx => ⟨hx, le_rfl⟩, fun hx => ⟨le_rfl, hx⟩⟩
  · obtain ⟨v, hv, hwave⟩ := ampWave_byte s l.advance.index hw
    rw [ampUse_on l x d h, ampScale_entry (l := l.advance) d hwave, Params.ascales_reference htables]
    exact scaled_towardZero x (ascales_bounds _ hv).2

theorem pitchUse_bounds {s : State} {i : Fin 64} {x : Slot} (d : Nat) (htables : s.params.tables = Tables.reference)
    (hw : x.plfo.wave ≠ .none) (hnoise : x.plfo.wave = .noise → ∀ n : Fin 256, s.noise[n] ≠ 0) (h : s.plfos i ≠ 0) :
    let y := (s.pitchUse i x d).stepEff
    y * 256 ≤ x.step.toNat * 339 ∧ x.step.toNat * 192 < (y + 1) * 256 := by
  obtain ⟨v, hv, hwave⟩ := pitchWave_lt s x.plfo.advance.index hw fun hn => hnoise hn _
  rw [pitchUse_on x d h, pitchScale_entry (l := x.plfo.advance) d hwave (by omega), Params.pscales_reference htables]
  obtain ⟨hlo, hhi⟩ := pscales_bounds x.plfo.advance.depth (n := (v + 128).toNat) (by omega)
  exact scaled_step _ hlo hhi

/-- Settles O45: one use of each LFO by the waveform entry it reads; the reference waveforms; and the bounds of the gains. -/
theorem lfoGains : Obligations.LfoGains := by
  refine ⟨fun s i x d => ?_, fun s i l x d => ?_, fun s n => ⟨rfl, rfl⟩, fun s n htables => ?_,
    fun p d n htables hn => ?_, fun s i l x d => ampUse_neverAmplifies i x d, fun s i x d => pitchUse_bounds d⟩
  · dsimp only
    split
    · rename_i hoff
      rw [pitchUse_off x d hoff]
      exact ⟨rfl, rfl, rfl⟩
    · rename_i hon
      rw [pitchUse_on x d hon, ← advance_index_eq]
      refine ⟨rfl, Lfo.advance_phase _, ?_⟩
      cases hw : s.pitchWave x.plfo.wave x.plfo.advance.index with
      | none =>
        rw [pitchScale_none (l := x.plfo.advance) d hw]
        exact ⟨rfl, rfl⟩
      | some v =>
        dsimp only
        split
        · rename_i hv
          rw [pitchScale_overflow (l := x.plfo.advance) d (hv ▸ hw)]
          exact ⟨rfl, rfl⟩
        · rename_i hv
          rw [pitchScale_entry (l := x.plfo.advance) d hw hv]
          exact ⟨rfl, rfl⟩
  · dsimp only
    split
    · rename_i hoff
      rw [ampUse_off l x d hoff]
      exact ⟨rfl, rfl, rfl⟩
    · rename_i hon
      rw [ampUse_on l x d hon, ← advance_index_eq]
      refine ⟨rfl, Lfo.advance_phase _, ?_⟩
      cases hw : s.ampWave l.wave l.advance.index with
      | none =>
        rw [ampScale_none (l := l.advance) d hw]
        exact ⟨rfl, rfl⟩
      | some v =>
        rw [ampScale_entry (l := l.advance) d hw]
        exact ⟨rfl, rfl⟩
  · exact ⟨congrArg some (pitchSaw_reference htables n), congrArg some (pitchSquare_reference htables n),
      congrArg some (pitchTri_reference htables n), congrArg some (ampSaw_reference htables n),
      congrArg some (ampSquare_reference htables n), congrArg some (ampTri_reference htables n)⟩
  · rw [Params.pscales_reference htables, Params.ascales_reference htables]
    exact ⟨pscales_bounds d hn, ascales_bounds d hn⟩

end Sys2Proof.Proofs
end

section
/-! What moves an LFO's phase: its use in a TICK and RESET, and no other operation (R226 to R228). -/

namespace Sys2Proof.Proofs

open Sys2Proof Sys2Proof.Machine

/-! ### The phases of a slot -/

/-- The phases of a slot's pitch LFO and amplitude LFO (R37). -/
def phasesOf (x : Slot) : Word × Word := (x.plfo.phase, x.alfo.phase)

/-- An update from `s` to `t` leaves the LFO phases of every slot alone. -/
def KeepsPhases (s t : State) : Prop := ∀ j : Fin 64, phasesOf t.slots[j] = phasesOf s.slots[j]

theorem keepsPhases_trans {s t u : State} (h : KeepsPhases s t) (g : KeepsPhases t u) : KeepsPhases s u :=
  fun j => (g j).trans (h j)

theorem keepsPhases_of_slots {s t : State} (h : t.slots = s.slots) : KeepsPhases s t :=
  fun j => congrArg (fun v => phasesOf v[j]) h

/-- An update that touches one slot keeps the phases when it keeps that slot's. -/
theorem keepsPhases_of_slot {s t : State} {i : Fin 64} (hothers : ∀ j, j ≠ i → t.slots[j] = s.slots[j])
    (hown : phasesOf t.slots[i] = phasesOf s.slots[i]) : KeepsPhases s t := by
  intro j
  by_cases hj : j = i
  · rwa [hj]
  · rw [hothers j hj]

theorem keepsPhases_setSlot {s : State} {i : Fin 64} {x : Slot} (hx : phasesOf x = phasesOf s.slots[i]) :
    KeepsPhases s (s.setSlot i x) :=
  keepsPhases_of_slot (fun _ hj => State.setSlot_slot_ne s x hj) ((congrArg _ (State.setSlot_slot_self s i x)).trans hx)

/-! ### Latching and the key scan -/

theorem latchedLfo_phase (p : Params) (l : Lfo) (f ws d : Nat) : (latchedLfo p l f ws d).phase = l.phase := by
  unfold latchedLfo
  split <;> rfl

/-- Latching keeps the phases (R226). -/
theorem computeLfo_phases (s : State) (i : Fin 64) (x : Slot) : phasesOf (s.computeLfo i x) = phasesOf x := by
  rw [computeLfo_eq, phasesOf, latchedLfo_phase, latchedLfo_phase]
  rfl

/-- Key-on and key-off keep the phases (R226). -/
theorem scannedSlot_phases (s : State) (i : Fin 64) (cache : Predictor) :
    phasesOf (scannedSlot s i cache) = phasesOf s.slots[i] := by
  have hstarted : phasesOf (startedSlot s i cache) = phasesOf s.slots[i] := computeLfo_phases s i _
  unfold scannedSlot
  split
  · split
    · exact hstarted
    · rfl
  · rfl

theorem keepsPhases_scanSlot (s : State) (i : Fin 64) : KeepsPhases s (s.scanSlot i) := by
  obtain ⟨cache, hslot, -⟩ := scanSlot_slot s i
  refine keepsPhases_of_slot (fun _ hj => State.scanSlot_slot_ne s hj) ?_
  rw [hslot, scannedSlot_phases]

theorem keepsPhases_keyScan (s : State) : KeepsPhases s s.keyScan :=
  List.foldlRecOn _ State.scanSlot (keepsPhases_of_slots rfl) fun t ht i _ =>
    keepsPhases_trans ht (keepsPhases_scanSlot t i)

theorem keepsPhases_keyExecute (s : State) (i : Fin 64) : KeepsPhases s (s.keyExecute i) := by
  cases hkyonex : s.kyonex i with
  | false => rw [keyExecute_idle hkyonex]; exact keepsPhases_of_slots rfl
  | true => exact keepsPhases_trans (keepsPhases_keyScan s) (keepsPhases_of_slots (keyExecute_slots hkyonex))

/-! ### Operations other than TICK and RESET -/

/-- A host write keeps the phases when its effect does; for a bad byte enable it has none (R66). -/
theorem keepsPhases_hostWrite {s : State} (m : Word) {effect : State → State} (h : KeepsPhases s (effect s)) :
    KeepsPhases s (s.hostWrite m effect) := by
  cases hm : byteEnableOk m with
  | true => rw [State.hostWrite_ok s effect hm]; exact h
  | false => rw [State.hostWrite_bad s effect hm]; exact keepsPhases_of_slots rfl

theorem keepsPhases_storeWrite (s : State) (a : Nat) (v m : Word) : KeepsPhases s (s.storeWrite a v m) :=
  keepsPhases_hostWrite m (keepsPhases_of_slots rfl)

/-- A write with an effect after its store: the store leaves the slots alone, so what comes after it decides. -/
theorem keepsPhases_storeThen {s : State} (a : Nat) (v m : Word) {after : State → State}
    (h : ∀ t, KeepsPhases t (after t)) : KeepsPhases s (s.hostWrite m fun s => after (s.store a v m)) :=
  keepsPhases_hostWrite m (keepsPhases_trans (keepsPhases_of_slots rfl) (h (s.store a v m)))

theorem keepsPhases_refusedWrite (s : State) (a m : Word) :
    KeepsPhases s (if byteEnableOk m then s.refuse (.outOfScopeRegister a) else s.refuse .badByteEnable) := by
  split <;> exact keepsPhases_of_slots rfl

theorem keepsPhases_acknowledge (s : State) : KeepsPhases s s.acknowledge := by
  refine keepsPhases_of_slots ?_
  unfold State.acknowledge
  dsimp only
  split <;> rfl

theorem keepsPhases_requestClear (s : State) : KeepsPhases s s.requestClear := by
  refine keepsPhases_of_slots ?_
  unfold State.requestClear
  split <;> rfl

theorem keepsPhases_fadeConfigure (s : State) (lengthS fadeS : BitVec 64) :
    KeepsPhases s (if badFadeOperand lengthS || badFadeOperand fadeS then s.refuse .badFadeOperand
      else (s.setFade (s.fade.configure lengthS fadeS)).ret .none) := by
  split <;> exact keepsPhases_of_slots rfl

theorem keepsPhases_midiNotify (s : State) (p : Bool) :
    KeepsPhases s ((if p then (s.setMidi true).checkIrq else s.setMidi false).ret .none) := by
  refine keepsPhases_of_slots ?_
  cases p with
  | true =>
    rw [if_pos rfl, State.ret_slots, State.checkIrq_frame]
    rfl
  | false => rfl

/-- Every operation but TICK and RESET keeps the phases (R226). -/
theorem exec_keepsPhases (s : State) : ∀ {i : Instr}, (∀ e, i ≠ .tick e) → i ≠ .reset →
    ∃ t, exec i s = .next t ∧ KeepsPhases s t
  | .r16RefuseOdd _, _, _ => ⟨_, rfl, keepsPhases_of_slots rfl⟩
  | .r16RefuseWindow _, _, _ => ⟨_, rfl, keepsPhases_of_slots rfl⟩
  | .r16Slot _, _, _ => ⟨_, rfl, keepsPhases_of_slots rfl⟩
  | .r16Efspan _, _, _ => ⟨_, rfl, keepsPhases_of_slots rfl⟩
  | .r16Unmapped _, _, _ => ⟨_, rfl, keepsPhases_of_slots rfl⟩
  | .r16Refused _, _, _ => ⟨_, rfl, keepsPhases_of_slots rfl⟩
  | .r16Monitor _, _, _ => ⟨_, rfl, keepsPhases_of_slots rfl⟩
  | .r16Common _, _, _ => ⟨_, rfl, keepsPhases_of_slots rfl⟩
  | .r16Irqreg _, _, _ => ⟨_, rfl, keepsPhases_of_slots rfl⟩
  | .w16RefuseOdd _ _ _, _, _ => ⟨_, rfl, keepsPhases_of_slots rfl⟩
  | .w16RefuseWindow _ _ _, _, _ => ⟨_, rfl, keepsPhases_of_slots rfl⟩
  | .w16SlotCtrl i v m, _, _ => ⟨_, rfl, keepsPhases_storeThen _ v m (after := (·.keyExecute i))
      fun t => keepsPhases_keyExecute t i⟩
  | .w16SlotEgrel i v m, _, _ => ⟨_, rfl, keepsPhases_storeThen _ v m (after := (·.latchRelease i))
      fun _ => keepsPhases_setSlot rfl⟩
  | .w16SlotPitch i v m, _, _ => ⟨_, rfl, keepsPhases_storeThen _ v m (after := (·.latchPitch i))
      fun _ => keepsPhases_setSlot rfl⟩
  | .w16SlotLfo i v m, _, _ => ⟨_, rfl, keepsPhases_storeThen _ v m (after := (·.latchLfo i))
      fun t => keepsPhases_setSlot (computeLfo_phases t i _)⟩
  | .w16SlotSa _ _ _, _, _ => ⟨_, rfl, keepsPhases_storeWrite s _ _ _⟩
  | .w16SlotLsa _ _ _, _, _ => ⟨_, rfl, keepsPhases_storeWrite s _ _ _⟩
  | .w16SlotLea _ _ _, _, _ => ⟨_, rfl, keepsPhases_storeWrite s _ _ _⟩
  | .w16SlotEgrate _ _ _, _, _ => ⟨_, rfl, keepsPhases_storeWrite s _ _ _⟩
  | .w16SlotDspsend _ _ _, _, _ => ⟨_, rfl, keepsPhases_storeWrite s _ _ _⟩
  | .w16SlotDirect _ _ _, _, _ => ⟨_, rfl, keepsPhases_storeWrite s _ _ _⟩
  | .w16SlotTl _ _ _, _, _ => ⟨_, rfl, keepsPhases_storeWrite s _ _ _⟩
  | .w16SlotStore _ _ _, _, _ => ⟨_, rfl, keepsPhases_storeWrite s _ _ _⟩
  | .w16Efspan _ _ _, _, _ => ⟨_, rfl, keepsPhases_storeWrite s _ _ _⟩
  | .w16Unmapped _ _ m, _, _ => ⟨_, rfl, keepsPhases_hostWrite m (keepsPhases_of_slots rfl)⟩
  | .w16Refused a _ m, _, _ => ⟨_, rfl, keepsPhases_refusedWrite s a m⟩
  | .w16Monitor _ _ _, _, _ => ⟨_, rfl, keepsPhases_storeWrite s _ _ _⟩
  | .w16Timer k v m, _, _ => ⟨_, rfl, keepsPhases_storeThen _ v m (after := (·.reloadTimer k))
      fun _ => keepsPhases_of_slots rfl⟩
  | .w16Scire v m, _, _ => ⟨_, rfl, keepsPhases_storeThen _ v m (after := State.acknowledge)
      keepsPhases_acknowledge⟩
  | .w16Common _ _ _, _, _ => ⟨_, rfl, keepsPhases_storeWrite s _ _ _⟩
  | .w16Irql _ _, _, _ => ⟨_, rfl, keepsPhases_storeWrite s _ _ _⟩
  | .w16Irqr v m, _, _ => ⟨_, rfl, keepsPhases_storeThen _ v m (after := State.requestClear)
      keepsPhases_requestClear⟩
  | .tick efreg, htick, _ => absurd rfl (htick efreg)
  | .fadeConfigure l f, _, _ => ⟨_, rfl, keepsPhases_fadeConfigure s l f⟩
  | .fadeAdvance _ _, _, _ => ⟨_, rfl, keepsPhases_of_slots rfl⟩
  | .fadeCount, _, _ => ⟨_, rfl, keepsPhases_of_slots rfl⟩
  | .fadeTotal, _, _ => ⟨_, rfl, keepsPhases_of_slots rfl⟩
  | .reset, _, hreset => absurd rfl hreset
  | .midiNotify p, _, _ => ⟨_, rfl, keepsPhases_midiNotify s p⟩
  | .reserved _ _, _, _ => ⟨_, rfl, keepsPhases_of_slots rfl⟩

/-! ### TICK -/

/-- An LFO of depth field `d` after one use: it advances unless the field is 0 (R227, R228). -/
def usedLfo (d : Nat) (l : Lfo) : Lfo := if d = 0 then l else l.advance

theorem usedLfo_phase (d : Nat) (l : Lfo) :
    (usedLfo d l).phase.toNat = if d ≠ 0 then (l.phase.toNat + l.phaseStep.toNat) % 65536 else l.phase.toNat := by
  rw [usedLfo, ite_not]
  split
  · rfl
  · exact Lfo.advance_phase l

theorem loopControl_plfo (s : State) (i : Fin 64) (x : Slot) : (s.loopControl i x).1.plfo = x.plfo := by
  rw [loopControl_slot]
  split <;> rfl

/-- A slot's run uses each of its LFOs once: steps (1) and (6) of R182. -/
theorem slotRun_lfos (s : State) (i : Fin 64) :
    (s.slotRun i s.slots[i]).slot.plfo = usedLfo (s.plfos i) s.slots[i].plfo ∧
      (s.slotRun i s.slots[i]).slot.alfo = usedLfo (s.alfos i) s.slots[i].alfo := by
  obtain ⟨-, hpitch⟩ := s.pitchUse_cases i s.draws
  obtain ⟨-, hamp⟩ := s.ampUse_cases i (runSample s i) (runFetch s i).draws
  refine ⟨(loopControl_plfo s i (runMoved s i)).trans hpitch, Eq.trans ?_ hamp⟩
  rw [show s.slots[i].alfo = (runMoved s i).alfo from rfl, ← loopControl_alfo s i (runMoved s i)]
  rfl

/-- A TICK uses each LFO of a slot that runs once; a stop touches neither (R160, R182). -/
theorem tick_lfos {s : State} {i : Fin 64} (efreg : List Word) (hruns : s.runs i = true) :
    (s.tick efreg).slots[i].plfo = usedLfo (s.plfos i) s.slots[i].plfo ∧
      (s.tick efreg).slots[i].alfo = usedLfo (s.alfos i) s.slots[i].alfo := by
  obtain ⟨d, hslot, -⟩ := tick_run efreg hruns
  have hrun : (runFrom s i d).slot.plfo = usedLfo (s.plfos i) s.slots[i].plfo ∧
      (runFrom s i d).slot.alfo = usedLfo (s.alfos i) s.slots[i].alfo := slotRun_lfos (s.setDraws d) i
  rw [hslot]
  split <;> exact hrun

/-! ### The statement -/

/-- Settles O46: the operations that keep the phases, the use of the LFOs in a TICK, and the idle slots of RESET. -/
theorem lfoPhases : Obligations.LfoPhases := by
  intro i s t j hexec
  refine ⟨fun htick hreset => ?_, ?_, ?_⟩
  · obtain ⟨u, hu, hkeeps⟩ := exec_keepsPhases s htick hreset
    obtain rfl := Host.Outcome.next.inj (hu.symm.trans hexec)
    exact Prod.ext_iff.mp (hkeeps j)
  · rintro ⟨e, rfl⟩
    obtain rfl : s.tick e = t := Host.Outcome.next.inj hexec
    cases hruns : s.runs j with
    | false =>
      rw [(tick_idle e hruns).1]
      simp
    | true =>
      obtain ⟨hplfo, halfo⟩ := tick_lfos e hruns
      rw [hplfo, halfo, usedLfo_phase, usedLfo_phase]
      simp only [true_and, and_self]
  · rintro rfl
    obtain rfl : s.resetOp = t := Host.Outcome.next.inj hexec
    have hidle : s.resetOp.slots[j] = Slot.idle := Vector.getElem_replicate j.isLt
    rw [hidle]
    exact ⟨rfl, rfl⟩

end Sys2Proof.Proofs
end

section
/-! Where no draw is made, a slot's run does not depend on the draw counter (R61, R182, R229); so what a TICK does to the slot
does not depend on the other slots (R250). -/

namespace Sys2Proof.Proofs

open Sys2Proof Sys2Proof.Machine

/-! ### The pieces of a run without draws -/

theorem pitchUse_drawFree {s : State} {i : Fin 64} {x : Slot}
    (h : s.plfos i ≠ 0 → x.plfo.wave ≠ .none ∧ (x.plfo.wave = .noise → ∀ n : Fin 256, s.noise[n] ≠ 0)) :
    ∃ u : PitchUse, ∀ d, s.pitchUse i x d = { u with draws := d } := by
  refine ⟨s.pitchUse i x 0, fun d => ?_⟩
  by_cases hoff : s.plfos i = 0
  · simp only [pitchUse_off x _ hoff]
  · obtain ⟨hw, hnoise⟩ := h hoff
    obtain ⟨v, hv, hwave⟩ := pitchWave_lt s x.plfo.advance.index hw fun hn => hnoise hn _
    simp only [pitchUse_on x _ hoff, pitchScale_entry (l := x.plfo.advance) _ hwave (by omega)]

theorem ampUse_drawFree {s : State} {i : Fin 64} {l : Lfo} (x : Int) (h : s.alfos i ≠ 0 → l.wave ≠ .none) :
    ∃ u : AmpUse, ∀ d, s.ampUse i l x d = { u with draws := d } := by
  refine ⟨s.ampUse i l x 0, fun d => ?_⟩
  by_cases hoff : s.alfos i = 0
  · simp only [ampUse_off l x _ hoff]
  · obtain ⟨v, -, hwave⟩ := ampWave_byte s l.advance.index (h hoff)
    simp only [ampUse_on l x _ hoff, ampScale_entry (l := l.advance) _ hwave]

theorem adpcmWalkStep_drawFree {s : State} (i1 : Nat) {w : AdpcmWalk} (d : Nat) (h : s.inRam w.ad.base.toNat) :
    s.adpcmWalkStep i1 { w with draws := d } = { s.adpcmWalkStep i1 w with draws := d } := by
  simp only [State.adpcmWalkStep, State.nibble, State.memByte_inRam s _ h]

/-- A walk of R186 whose bytes lie below `RAM_SIZE` hands the draw counter on. -/
theorem adpcmWalk_drawFree {s : State} (i1 : Nat) {fuel : Nat} {w : AdpcmWalk} (d : Nat)
    (hbound : w.ad.step.toNat + fuel < 0x100000000) (hram : s.streamInRam (streamOf w.ad) w.ad.step.toNat fuel) :
    s.adpcmWalk i1 fuel { w with draws := d } = { s.adpcmWalk i1 fuel w with draws := d } := by
  induction fuel with
  | zero => rfl
  | succ fuel ih =>
    have hlt : w.ad.step.toNat + fuel < 0x100000000 := by omega
    have hbyte : s.inRam (s.adpcmWalk i1 fuel w).ad.base.toNat := by
      rw [State.inRam, adpcmWalk_base s i1 hlt]
      exact hram fuel (Nat.lt_succ_self fuel)
    rw [adpcmWalk_succ, ih hlt (streamInRam_mono (Nat.le_succ fuel) hram), adpcmWalkStep_drawFree i1 d hbyte,
      ← adpcmWalk_succ]

theorem fetchAdpcm_drawFree {s : State} {x : Slot} (h : AdpcmInRam s x (x.nxtAddr.toNat / 4096)) :
    ∃ f : Fetch, ∀ d, s.fetchAdpcm x d = { f with draws := d } := by
  refine ⟨s.fetchAdpcm x 0, fun d => ?_⟩
  by_cases hq : x.ad.quant = 0
  · simp only [fetchAdpcm_uninit s _ hq]
  · have hwalk := adpcmWalk_drawFree (x.curAddr.toNat / 4096) (w := walkStart x 0) d (fetchCount_bound x) (h hq)
    simp only [fetchAdpcm_walk s _ hq]
    rw [show walkStart x d = { walkStart x 0 with draws := d } from rfl, hwalk]

theorem fetch_drawFree {s : State} {i : Fin 64} (h : s.fetchInRam i) :
    ∃ f : Fetch, ∀ d, s.fetch i s.slots[i] d = { f with draws := d } := by
  obtain ⟨hcur, hnxt⟩ := h
  by_cases h0 : s.pcms i = 0
  · have hcur' := hcur (by omega)
    rw [State.sampleInRam, if_pos h0] at hcur' hnxt
    refine ⟨s.fetch i s.slots[i] 0, fun d => ?_⟩
    simp only [fetch_pcm16 _ _ h0, State.fetchPcm16, pcm16Offset_eq, State.memWord_inRam s _ hcur'.1 hcur'.2,
      State.memWord_inRam s _ hnxt.1 hnxt.2]
  · by_cases h1 : s.pcms i = 1
    · have hcur' := hcur (by omega)
      rw [State.sampleInRam, if_neg h0, if_pos h1] at hcur' hnxt
      refine ⟨s.fetch i s.slots[i] 0, fun d => ?_⟩
      simp only [fetch_pcm8 _ _ h1, State.fetchPcm8, State.memByte_inRam s _ hcur', State.memByte_inRam s _ hnxt]
    · have h2 : 2 ≤ s.pcms i := by omega
      simp only [fetch_adpcm _ _ h2]
      exact fetchAdpcm_drawFree (sampleInRam_adpcm h2 hnxt)

/-! ### The run without draws -/

theorem advance_alfo (s : State) (i : Fin 64) (x : Slot) (stepEff : Nat) : (s.advance i x stepEff).alfo = x.alfo := rfl

/-- The run of a slot in whose update no draw is made is the same from every draw counter, which it hands on. -/
theorem runFrom_drawFree {s : State} {i : Fin 64} (h : s.slotDrawFree i) :
    ∃ r : SlotRun, ∀ d, runFrom s i d = { r with draws := d } := by
  obtain ⟨hfetch, hplfo, halfo⟩ := h
  obtain ⟨u, hu⟩ := pitchUse_drawFree hplfo
  obtain ⟨f, hf⟩ := fetch_drawFree hfetch
  obtain ⟨a, ha⟩ := ampUse_drawFree (interpolate s.slots[i].curAddr f.cur f.nxt) halfo
  refine ⟨runFrom s i 0, fun d => ?_⟩
  have hagree := agreeOn_setDraws s i
  simp only [runFrom, State.slotRun, State.setDraws_draws, State.setDraws_params, pitchUse_congr (hagree _),
    fetch_congr (hagree _), advance_congr (hagree _), loopControl_congr (hagree _), ampUse_congr (hagree _),
    lpslnk_congr (hagree _), d2r_congr (hagree _), loopControl_alfo, advance_alfo, hu, hf, ha]

theorem runFrom_congr {s t : State} {i : Fin 64} (h : s.agreeOn t i) (d : Nat) : runFrom t i d = runFrom s i d := by
  have hagree : (s.setDraws d).agreeOn (t.setDraws d) i := h
  rw [runFrom, runFrom, h.1, slotRun_congr hagree rfl]

theorem runFrom_self (s : State) (i : Fin 64) : runFrom s i s.draws = s.slotRun i s.slots[i] := by
  have hsame : s.setDraws s.draws = s := rfl
  rw [runFrom, hsame]

/-- From every draw counter such a slot makes its own run. -/
theorem runFrom_own {s : State} {i : Fin 64} (h : s.slotDrawFree i) (d : Nat) :
    runFrom s i d = { s.slotRun i s.slots[i] with draws := d } := by
  obtain ⟨r, hr⟩ := runFrom_drawFree h
  rw [← runFrom_self, hr, hr]

/-- The sample of a slot's update is the same in every state that agrees on the slot, where the update draws nothing. -/
theorem slotUpdate_out_congr {s t : State} {i : Fin 64} (h : s.agreeOn t i) (hfree : s.ssctl i = false → s.slotDrawFree i) :
    (t.slotUpdate i).2 = (s.slotUpdate i).2 := by
  unfold State.slotUpdate
  rw [ssctl_congr h]
  split
  · rfl
  · rename_i hssctl
    have hrun : t.slotRun i t.slots[i] = runFrom s i t.draws := (runFrom_self t i).symm.trans (runFrom_congr h t.draws)
    dsimp only
    rw [hrun, runFrom_own (hfree (Bool.eq_false_iff.mpr hssctl))]

/-! ### The TICK -/

/-- A TICK leaves a slot, and its word 0x00, as the slot's own run makes them, whatever the state holds elsewhere. -/
theorem tick_ownRun {s t : State} {i : Fin 64} (efreg : List Word) (h : s.agreeOn t i) (hwf : RegFile.wf t.regs = true)
    (hruns : s.runs i = true) (hfree : s.slotDrawFree i) :
    let u := s.slotRun i s.slots[i]
    (t.tick efreg).slots[i] = { u.slot with active := !u.stop } ∧
      (t.tick efreg).sr i 0x00 = if u.stop = true then s.sr i 0x00 &&& 0xBFFF else s.sr i 0x00 := by
  obtain ⟨hactive, -⟩ := (runs_iff s i).mp hruns
  have hgoesOn : (s.slotRun i s.slots[i]).slot.active = true := (slotRun_active s i).trans hactive
  have hword := agreeOn_sr h (o := 0x00) (by decide)
  obtain ⟨d, hslot, hgoes, hstops⟩ := tick_run efreg ((runs_congr h).trans hruns)
  rw [runFrom_congr h, runFrom_own hfree, hword] at hgoes hstops
  rw [runFrom_congr h, runFrom_own hfree] at hslot
  dsimp only at hslot hgoes hstops ⊢
  generalize s.slotRun i s.slots[i] = u at *
  cases hstop : u.stop with
  | false =>
    rw [hstop, if_neg Bool.false_ne_true] at hslot
    refine ⟨?_, hgoes hstop⟩
    rw [hslot, Bool.not_false, ← hgoesOn]
  | true =>
    rw [hstop] at hslot
    exact ⟨hslot, hstops hstop hwf⟩

/-- `t` differs from `s` at most in what a TICK may write (R250). -/
def TickWrites (s t : State) : Prop :=
  t = { s with
        regs := t.regs
        slots := t.slots
        timCnt := t.timCnt
        irq := t.irq
        irqSrc := t.irqSrc
        result := t.result
        draws := t.draws }

theorem tickWrites_of_eq {s t : State} {regs : RegFile} {slots : Vector Slot 64} {timCnt : Vector (BitVec 16) 3} {irq : Bool}
    {irqSrc : IrqSrc} {result : Result} {draws : Nat}
    (h : t = { s with
               regs := regs, slots := slots, timCnt := timCnt, irq := irq, irqSrc := irqSrc, result := result,
               draws := draws }) : TickWrites s t := by
  subst h
  rfl

theorem tickWrites_trans {s t u : State} (h : TickWrites s t) (g : TickWrites t u) : TickWrites s u := by
  unfold TickWrites at *
  rw [h] at g
  exact g

/-- A TICK is the mix, the timers, the interrupt line and the result, one after the other. -/
theorem tick_frame (s : State) (efreg : List Word) : TickWrites s (s.tick efreg) := by
  have hmix : TickWrites s (s.mix efreg).state := tickWrites_of_eq (s.mix_frame efreg)
  have htimers (t : State) : TickWrites t t.timersTick := tickWrites_of_eq t.timersTick_frame
  have hline (t : State) : TickWrites t t.checkIrq := tickWrites_of_eq t.checkIrq_frame
  have hret (t : State) (r : Result) : TickWrites t (t.ret r) := tickWrites_of_eq rfl
  exact tickWrites_trans (tickWrites_trans (tickWrites_trans hmix (htimers _)) (hline _)) (hret _ _)

theorem tick_ram (s : State) (efreg : List Word) : (s.tick efreg).ram = s.ram := by rw [tick_frame]

theorem tick_noise (s : State) (efreg : List Word) : (s.tick efreg).noise = s.noise := by rw [tick_frame]

/-- TICKs of two states that agree on a slot leave two states that do, where they leave the slot and its word 0x00 alike. -/
theorem tick_agreeOn {s t : State} {i : Fin 64} (h : s.agreeOn t i) (efreg efreg' : List Word)
    (hslot : (t.tick efreg').slots[i] = (s.tick efreg).slots[i])
    (hword : (t.tick efreg').sr i 0x00 = (s.tick efreg).sr i 0x00) : (s.tick efreg).agreeOn (t.tick efreg') i := by
  obtain ⟨-, hwords, hparams, hram, hnoise⟩ := h
  refine ⟨hslot, fun o ho => ?_, ?_, fun a => ?_, ?_⟩
  · by_cases hpos : o = 0
    · rw [hpos]
      exact hword
    · exact (tick_sr_ne t efreg' i hpos ho).trans ((hwords o ho).trans (tick_sr_ne s efreg i hpos ho).symm)
  · rw [tick_params, tick_params, hparams]
  · rw [State.ramByte, State.ramByte, tick_ram, tick_ram]
    exact hram a
  · rw [tick_noise, tick_noise, hnoise]

/-! ### The statement -/

/-- Settles O34: the slot's own run, from both states; a slot that does not run stays as it is. -/
theorem eachSlotAlone : Obligations.EachSlotAlone := by
  intro e s t j hwf hfree hexec
  obtain rfl : s.tick e = t := Host.Outcome.next.inj hexec
  cases hruns : s.runs j with
  | false =>
    obtain ⟨hslot, hword⟩ := tick_idle e hruns
    refine ⟨hslot, fun e' s' t' _ hagree hexec' => ⟨?_, fun h => absurd h Bool.false_ne_true⟩⟩
    obtain rfl : s'.tick e' = t' := Host.Outcome.next.inj hexec'
    obtain ⟨hslot', hword'⟩ := tick_idle e' ((runs_congr hagree).trans hruns)
    refine tick_agreeOn hagree e e' ?_ ?_
    · rw [hslot, hslot', hagree.1]
    · rw [hword, hword', agreeOn_sr hagree (by decide)]
  | true =>
    have hfree' := hfree hruns
    obtain ⟨hslot, hword⟩ := tick_ownRun e (agreeOn_refl s j) hwf hruns hfree'
    refine ⟨⟨hslot, hword⟩, fun e' s' t' hwf' hagree hexec' => ⟨?_, fun _ => slotUpdate_out_congr hagree fun _ => hfree'⟩⟩
    obtain rfl : s'.tick e' = t' := Host.Outcome.next.inj hexec'
    obtain ⟨hslot', hword'⟩ := tick_ownRun e' hagree hwf' hruns hfree'
    exact tick_agreeOn hagree e e' (hslot'.trans hslot.symm) (hword'.trans hword.symm)

end Sys2Proof.Proofs
end

section
/-! What a TICK mixes and sends: the samples of the active slots, each through its pan table, and the effect returns
(R243, R244, R246 to R248, R250). -/

namespace Sys2Proof.Proofs

open Sys2Proof Sys2Proof.Machine

/-! ### A slot's turn -/

/-- What a slot sends and mixes of a sample depends on the parameters and on the slot's words 0x20, 0x24 and 0x28 alone. -/
theorem levels_congr {s t : State} {i : Fin 64} (x : Int) (hparams : t.params = s.params)
    (hwords : ∀ o ∈ [0x20, 0x24, 0x28], t.sr i o = s.sr i o) :
    t.directL i x = s.directL i x ∧ t.directR i x = s.directR i x ∧ t.sendOf i x = s.sendOf i x := by
  unfold State.directL State.directR State.sendOf State.tl State.dipan State.disdl State.imxl State.isel
  rw [hparams, hwords 0x20 (by decide), hwords 0x24 (by decide), hwords 0x28 (by decide)]
  exact ⟨rfl, rfl, rfl⟩

theorem slotUpdate_sr_ne (s : State) (i : Fin 64) {o : Nat} (hpos : o ≠ 0) (ho : o < 0x80) :
    (s.slotUpdate i).1.sr i o = s.sr i o :=
  s.slotUpdate_reg_ne i fun e => hpos ((slotReg_inj ho (by decide)).mp e).2

theorem slotUpdate_params (s : State) (i : Fin 64) : (s.slotUpdate i).1.params = s.params := by rw [State.slotUpdate_frame]

/-- The turn of an active slot mixes and sends its sample at the levels that stood before the TICK (R250). -/
theorem slotTurn_active {s : State} {m : Mix} {i : Fin 64} (h : s.agreeOn m.state i) (hactive : s.slots[i].active = true) :
    m.slotTurn i =
      { state := (m.state.slotUpdate i).1
        accL := m.accL + s.directL i (m.state.slotUpdate i).2
        accR := m.accR + s.directR i (m.state.slotUpdate i).2
        sends := m.sends ++ [s.sendOf i (m.state.slotUpdate i).2] } := by
  have hwords : ∀ o ∈ [0x20, 0x24, 0x28], (m.state.slotUpdate i).1.sr i o = s.sr i o := by
    intro o ho
    have hbounds : o ≠ 0 ∧ o < 0x80 := by
      simp only [List.mem_cons, List.not_mem_nil, or_false] at ho
      omega
    exact (slotUpdate_sr_ne m.state i hbounds.1 hbounds.2).trans (agreeOn_sr h hbounds.2)
  obtain ⟨hl, hr, hsend⟩ := levels_congr (m.state.slotUpdate i).2
    ((slotUpdate_params m.state i).trans (agreeOn_params h)) hwords
  rw [Mix.slotTurn, if_pos (by rw [h.1]; exact hactive)]
  dsimp only
  rw [hl, hr, hsend]

/-- The turns of inactive slots do nothing (R163). -/
theorem slotTurns_inactive {m : Mix} {l : List (Fin 64)} (h : ∀ i ∈ l, m.state.slots[i].active = false) :
    m.slotTurns l = m := by
  induction l with
  | nil => rfl
  | cons i l ih =>
    rw [Mix.slotTurns, List.foldl_cons, Mix.slotTurn_inactive m i (h i List.mem_cons_self)]
    exact ih fun k hk => h k (List.mem_cons_of_mem i hk)

/-! ### The slots' turns in order -/

/-- A TICK after the turns of slots 0 to `n - 1`. -/
def mixTo (s : State) (n : Nat) : Mix := (mixStart s).slotTurns ((List.finRange 64).take n)

theorem take_finRange_succ (i : Fin 64) : (List.finRange 64).take (i.val + 1) = (List.finRange 64).take i.val ++ [i] := by
  rw [List.take_add_one, List.getElem?_eq_getElem (by simp), List.getElem_finRange]
  rfl

theorem mixTo_succ (s : State) (i : Fin 64) : mixTo s (i.val + 1) = (mixTo s i.val).slotTurn i := by
  rw [mixTo, take_finRange_succ, Mix.slotTurns, List.foldl_append]
  rfl

theorem mem_take_finRange {i : Fin 64} {n : Nat} (h : i ∈ (List.finRange 64).take n) : i.val < n := by
  obtain ⟨k, hk, rfl⟩ := List.mem_iff_getElem.mp h
  rw [List.length_take] at hk
  rw [List.getElem_take, List.getElem_finRange]
  exact hk.trans_le (min_le_left _ _)

/-- Before its own turn a slot reads what it read before the TICK (R250). -/
theorem mixTo_agreeOn (s : State) (i : Fin 64) : s.agreeOn (mixTo s i.val).state i :=
  slotTurns_agreeOn (mixStart s) fun h => (mem_take_finRange h).false

/-- The sample that slot `i` gives in a TICK, if it is active. -/
def tickSample (s : State) (i : Fin 64) : Int := ((mixTo s i.val).state.slotUpdate i).2

/-- The active slots among slots 0 to `n - 1`, in order. -/
def soundingTo (s : State) (n : Nat) : List (Fin 64) := ((List.finRange 64).take n).filter fun i => s.slots[i].active

theorem soundingTo_succ (s : State) (i : Fin 64) :
    soundingTo s (i.val + 1) = soundingTo s i.val ++ if s.slots[i].active = true then [i] else [] := by
  rw [soundingTo, take_finRange_succ, List.filter_append, List.filter_cons, List.filter_nil]
  rfl

/-- The active slots, in order. -/
def sounding (s : State) : List (Fin 64) := (List.finRange 64).filter fun i => s.slots[i].active

theorem soundingTo_all (s : State) : soundingTo s 64 = sounding s := by
  rw [soundingTo, List.take_of_length_le (by simp), sounding]

/-- The accumulators and the send list of `m` after the turns of the slots `l`, all active (R244, R246, R250). -/
structure MixedSlots (s : State) (l : List (Fin 64)) (m : Mix) : Prop where
  accL : m.accL = (l.map fun i => s.directL i (tickSample s i)).sum
  accR : m.accR = (l.map fun i => s.directR i (tickSample s i)).sum
  sends : m.sends = l.map fun i => s.sendOf i (tickSample s i)

theorem mixTo_mixed (s : State) {n : Nat} (hn : n ≤ 64) : MixedSlots s (soundingTo s n) (mixTo s n) := by
  induction n with
  | zero => exact ⟨rfl, rfl, rfl⟩
  | succ n ih =>
    obtain ⟨i, rfl⟩ : ∃ i : Fin 64, i.val = n := ⟨⟨n, hn⟩, rfl⟩
    obtain ⟨hl, hr, hsends⟩ := ih i.isLt.le
    have hagree := mixTo_agreeOn s i
    rw [mixTo_succ, soundingTo_succ]
    by_cases hactive : s.slots[i].active = true
    · rw [if_pos hactive, slotTurn_active hagree hactive]
      constructor
      · rw [List.map_append, List.sum_append, ← hl, List.map_singleton, List.sum_singleton, tickSample]
      · rw [List.map_append, List.sum_append, ← hr, List.map_singleton, List.sum_singleton, tickSample]
      · rw [List.map_append, ← hsends, List.map_singleton, tickSample]
    · rw [if_neg hactive, List.append_nil,
        Mix.slotTurn_inactive _ _ ((congrArg Slot.active hagree.1).trans (Bool.eq_false_iff.mpr hactive))]
      exact ⟨hl, hr, hsends⟩

/-! ### The whole mix -/

/-- Slot `i`'s part of the mix with sample `x`, through a pan table (R243, R246). -/
def directBy (s : State) (table : Nat → Nat → Nat → Nat) (i : Fin 64) (x : Int) : Int :=
  x * table (s.tl i) (s.dipan i) (s.disdl i) / 4096

/-- Effect return `n`'s part of the mix, through a pan table (R243, R247). -/
def returnBy (s : State) (table : Nat → Nat → Nat → Nat) (efreg : List Word) (n : Nat) : Int :=
  if s.efsdl n = 0 then 0 else (efreg.getD n 0).toInt * table 0 (s.efpan n) (s.efsdl n) / 4096

/-- The sum of the parts of the active slots and of the effect returns, through a pan table (R250). -/
def mixBy (s : State) (table : Nat → Nat → Nat → Nat) (efreg : List Word) : Int :=
  ((sounding s).map fun i => directBy s table i (tickSample s i)).sum + ((List.range 16).map (returnBy s table efreg)).sum

/-- The effect returns read the registers after the slots' turns, which leave the words of the returns alone. -/
theorem returns_mixed {s t : State} (efreg : List Word) (hframe : s.scanFrame t)
    (hregs : ∀ n, t.reg (0x2000 + 4 * n) = s.reg (0x2000 + 4 * n)) :
    t.returnL efreg = returnBy s s.params.lpan efreg ∧ t.returnR efreg = returnBy s s.params.rpan efreg := by
  have hparams : t.params = s.params := by rw [hframe]
  constructor <;> funext n
  · rw [State.returnL, State.efsdl, State.efpan, hregs, hparams, ite_not]
    rfl
  · rw [State.returnR, State.efsdl, State.efpan, hregs, hparams, ite_not]
    rfl

theorem mixStart_turns (s : State) : (mixStart s).slotTurns (List.finRange 64) = mixTo s 64 := by
  rw [mixTo, List.take_of_length_le (by simp)]

/-- The mix of a TICK, in closed form (R244, R246, R247, R250). -/
theorem mix_eq (s : State) (efreg : List Word) :
    (s.mix efreg).accL = mixBy s s.params.lpan efreg ∧ (s.mix efreg).accR = mixBy s s.params.rpan efreg ∧
      (s.mix efreg).sends = (sounding s).map fun i => s.sendOf i (tickSample s i) := by
  obtain ⟨hl, hr, hsends⟩ := mixTo_mixed s le_rfl
  have hmix : s.mix efreg = (List.range 16).foldl (Mix.returnTurn efreg) (mixTo s 64) := by
    rw [← mixStart_turns]
    rfl
  obtain ⟨hreturnL, hreturnR⟩ := returns_mixed (s := s) (t := (mixTo s 64).state) efreg ((mixStart s).slotTurns_frame _)
    fun n => (mixStart s).slotTurns_reg _ fun i _ e => by
      have hlt := slotReg_lt i (o := 0x00) (by decide)
      omega
  obtain ⟨haccL, haccR⟩ := Mix.foldl_returnTurn_acc efreg (List.range 16) (mixTo s 64)
  rw [soundingTo_all] at hl hr hsends
  rw [hmix, Mix.foldl_returnTurn_sends, haccL, haccR, hl, hr, hsends, hreturnL, hreturnR]
  exact ⟨rfl, rfl, rfl⟩

/-- R248, with the shift as the floor of a division. -/
theorem mixOut_eq (acc : Int) : mixOut acc = max (-32768) (min 32767 (acc / 8)) := by
  have hshift : sar acc 3 = acc / 8 := rfl
  rw [mixOut, hshift, clip16, clamp]
  omega

theorem sendOf_eq (s : State) (i : Fin 64) (x : Int) :
    s.sendOf i x = (s.isel i, x * s.params.lpan (s.tl i) 0 (s.imxl i) / 1024) := rfl

/-- What a TICK returns (R248, R250). -/
theorem tick_result (s : State) (efreg : List Word) :
    (s.tick efreg).result =
      .tick (mixOut (mixBy s s.params.lpan efreg)) (mixOut (mixBy s s.params.rpan efreg))
        ((sounding s).map fun i => s.sendOf i (tickSample s i)) := by
  obtain ⟨hl, hr, hsends⟩ := mix_eq s efreg
  rw [← hl, ← hr, ← hsends]
  rfl

/-! ### Draw-free TICKs, and TICKs without active slots -/

/-- Without draws an active slot gives the sample of its own update. -/
theorem tickSample_drawFree {s : State} {i : Fin 64} (h : s.drawFree) (hactive : s.slots[i].active = true) :
    tickSample s i = (s.slotUpdate i).2 :=
  slotUpdate_out_congr (mixTo_agreeOn s i) fun hssctl => h i ((runs_iff s i).mpr ⟨hactive, hssctl⟩)

/-- The first active slot meets the state before the TICK. -/
theorem mixTo_of_inactive {s : State} {n : Nat} (h : ∀ i : Fin 64, i.val < n → s.slots[i].active = false) :
    mixTo s n = mixStart s :=
  slotTurns_inactive fun i hi => h i (mem_take_finRange hi)

theorem sounding_of_inactive {s : State} (h : ∀ i : Fin 64, s.slots[i].active = false) : sounding s = [] :=
  List.filter_eq_nil_iff.mpr fun i _ => Bool.eq_false_iff.mp (h i)

/-- Settles O35: without draws each sample is its slot's own. -/
theorem tickMix : Obligations.TickMix := by
  intro e s _ hfree x active slots returns out
  have hsample : ∀ i ∈ sounding s, tickSample s i = x i := fun i hi =>
    tickSample_drawFree hfree (List.mem_filter.mp hi).2
  have hmix (table : Nat → Nat → Nat → Nat) : mixOut (mixBy s table e) = out table := by
    rw [mixOut_eq, mixBy, List.map_congr_left fun i hi => by rw [hsample i hi]]
    rfl
  refine ⟨_, rfl, ?_⟩
  rw [tick_result, hmix, hmix, List.map_congr_left fun i hi => by rw [hsample i hi, sendOf_eq]]
  rfl

/-- Settles O48: with no slot's turn to take, the effect returns are the mix. -/
theorem effectReturns : Obligations.EffectReturns := by
  intro e s hinactive part out
  have hstays : (s.mix e).state = s := by
    rw [State.mix, Mix.foldl_returnTurn_state, ← mixStart, mixStart_turns, mixTo_of_inactive fun i _ => hinactive i]
    rfl
  have hmix (table : Nat → Nat → Nat → Nat) : mixOut (mixBy s table e) = out table := by
    rw [mixOut_eq, mixBy, sounding_of_inactive hinactive, List.map_nil, List.sum_nil, Int.zero_add]
    rfl
  refine ⟨_, rfl, ?_, ?_, ?_, fun a => ?_⟩
  · rw [tick_result, hmix, hmix, sounding_of_inactive hinactive, List.map_nil]
  · rw [tick_slots, hstays]
  · rw [State.tick, State.ret_draws, State.checkIrq_frame, State.timersTick_frame, hstays]
  · rw [State.ramByte, tick_ram]
    rfl

end Sys2Proof.Proofs
end

section
/-! The range of a slot's sample (R13, R188, R228, R161), and what follows for the mix and the sends (R245, R248, R251). -/

namespace Sys2Proof.Proofs

open Sys2Proof Sys2Proof.Machine

/-! ### The fetched samples -/

theorem isS16_zero : IsS16 0 := by
  unfold IsS16
  omega

theorem word_isS16 (w : Word) : IsS16 w.toInt := by
  have hlo := BitVec.le_toInt w
  have hhi := BitVec.toInt_lt (x := w)
  unfold IsS16
  omega

theorem byte_isS16 (b : Byte) : IsS16 (b.toInt * 256) := by
  have hlo := BitVec.le_toInt b
  have hhi := BitVec.toInt_lt (x := b)
  unfold IsS16
  omega

/-- The predictors that an ADPCM fetch passes are s16 values (R36, R186). -/
theorem fetchAdpcm_isS16 (s : State) {x : Slot} (d : Nat) (h : AdpcmInRange x.ad) :
    IsS16 (s.fetchAdpcm x d).cur ∧ IsS16 (s.fetchAdpcm x d).nxt := by
  by_cases hq : x.ad.quant = 0
  · rw [fetchAdpcm_uninit s d hq]
    exact ⟨isS16_zero, isS16_zero⟩
  · have hquant : IsQuant (walkStart x d).ad.quant := h.quants.elim (fun h0 => absurd h0.1 hq) And.left
    have hwalk (i1 fuel : Nat) : IsS16 (s.adpcmWalk i1 fuel (walkStart x d)).ad.sample :=
      (adpcmWalk_inRange s i1 fuel (w := walkStart x d) h hquant).sample
    constructor
    · rw [fetchAdpcm_cur_eq s d hq]
      split
      · exact hwalk _ _
      · exact h.sample
    · rw [fetchAdpcm_walk s d hq]
      exact hwalk _ _

/-- A fetch in any format gives s16 samples (R184 to R187). -/
theorem fetch_isS16 (s : State) (i : Fin 64) {x : Slot} (d : Nat) (h : AdpcmInRange x.ad) :
    IsS16 (s.fetch i x d).cur ∧ IsS16 (s.fetch i x d).nxt := by
  unfold State.fetch
  split
  · exact ⟨word_isS16 _, word_isS16 _⟩
  · exact ⟨byte_isS16 _, byte_isS16 _⟩
  · exact fetchAdpcm_isS16 s d h

theorem interpolate_isS16 (c : U32) {cur nxt : Int} (hcur : IsS16 cur) (hnxt : IsS16 nxt) :
    IsS16 (interpolate c cur nxt) := by
  obtain ⟨-, -, -, -, hrange⟩ := interpolationBetween c cur nxt
  exact hrange (le_min hcur.1 hnxt.1) (max_le hcur.2 hnxt.2)

/-! ### The gains -/

/-- A gain of 4096ths between 0 and 4096 keeps the s16 range, with the floor of R13. -/
theorem scaled_isS16 {x a : Int} (hx : IsS16 x) (hlo : 0 ≤ a) (hhi : a ≤ 4096) : IsS16 (x * a / 4096) := by
  obtain ⟨hxlo, hxhi⟩ := hx
  have hbelow : -32768 * a ≤ x * a := mul_le_mul_of_nonneg_right hxlo hlo
  have habove : x * a ≤ 32767 * a := mul_le_mul_of_nonneg_right hxhi hlo
  unfold IsS16
  omega

/-- The amplitude LFO, off or latched, takes a sample toward 0 (R228). -/
theorem ampUse_isS16 {s : State} {i : Fin 64} {l : Lfo} {x : Int} (d : Nat) (htables : s.params.tables = Tables.reference)
    (hlfo : LfoLatched s.params l (s.lfof i) (s.alfows i) (s.alfos i)) (hx : IsS16 x) :
    IsS16 (s.ampUse i l x d).x := by
  by_cases hoff : s.alfos i = 0
  · rwa [ampUse_off l x d hoff]
  · obtain ⟨-, hwave, -⟩ := hlfo hoff
    have hcomputed : l.wave ≠ .none := by
      rw [hwave]
      unfold waveOfField
      split <;> decide
    obtain ⟨hpos, hneg⟩ := ampUse_neverAmplifies i x d htables hcomputed
    unfold IsS16 at *
    omega

/-- The envelope's level from ATTACK is at most full (R155). -/
theorem egUpdate_level_range {p : Params} (lpslnk : Bool) (liveD2r : Nat) {e : Eg} (h : VolumeInRange p e) :
    0 ≤ (egUpdate p lpslnk liveD2r e).level ∧ (egUpdate p lpslnk liveD2r e).level ≤ 4092 := by
  obtain ⟨hlo, hhi⟩ := egUpdate_volume p lpslnk liveD2r h
  have hunit : (0 : Int) < 2 ^ p.egFrac.bits := by positivity
  have hlevelLo : 0 ≤ (egUpdate p lpslnk liveD2r e).eg.volume / 2 ^ p.egFrac.bits := Int.ediv_nonneg hlo hunit.le
  have hlevelHi : (egUpdate p lpslnk liveD2r e).eg.volume / 2 ^ p.egFrac.bits ≤ 0x3FF := Int.ediv_le_of_le_mul hunit hhi
  rw [egUpdate_level]
  split <;> omega

/-- The envelope takes a sample toward 0, from ATTACK and by the reference EG_TABLE (R161). -/
theorem egGain_isS16 {p : Params} (pre : EgState) {level x : Int} (htables : p.tables = Tables.reference)
    (hlevel : 0 ≤ level ∧ level ≤ 4092) (hx : IsS16 x) : IsS16 (egGain p pre level x) := by
  by_cases hpre : pre = .attack
  · rw [hpre, egGain_attack]
    exact scaled_isS16 hx hlevel.1 (by omega)
  · rw [egGain_table p level x hpre]
    exact scaled_isS16 hx (Int.natCast_nonneg _) (by exact_mod_cast Params.egEntry_le htables _)

/-! ### The sample of a slot -/

/-- With the reference tables a good slot's sample is an s16 value. -/
theorem slotUpdate_isS16 {s : State} {i : Fin 64} (htables : s.params.tables = Tables.reference)
    (h : SlotGood s i s.slots[i]) : IsS16 (s.slotUpdate i).2 := by
  unfold State.slotUpdate
  split
  · exact isS16_zero
  · obtain ⟨hcur, hnxt⟩ := fetch_isS16 s i (s.pitchUse i s.slots[i] s.draws).draws h.adpcm
    have hsample : IsS16 (runSample s i) := interpolate_isS16 _ hcur hnxt
    have hvolume : VolumeInRange s.params (runMoved s i).eg := h.volume
    dsimp only
    rw [slotRun_out]
    exact egGain_isS16 _ htables (egUpdate_level_range _ _ hvolume) (ampUse_isS16 _ htables h.alfo hsample)

theorem tickSample_isS16 {s : State} (i : Fin 64) (htables : s.params.tables = Tables.reference) (hinv : s.slotInv) :
    IsS16 (tickSample s i) := by
  have hagree := mixTo_agreeOn s i
  have hparams := agreeOn_params hagree
  refine slotUpdate_isS16 (by rwa [hparams]) (slotGood_congr hparams (fun o ho => agreeOn_sr hagree ?_) ?_)
  · simp only [List.mem_cons, List.not_mem_nil, or_false] at ho
    omega
  · rw [hagree.1]
    exact (slotInv_iff s).mp hinv i

/-! ### The pan tables -/

theorem gainTl_le (i : Nat) : gainEntry gainTl i ≤ 2 ^ 40 := tableGet_le 8 i (by decide +kernel)

theorem gainSdl_le (i : Nat) : gainEntry gainSdl i ≤ 2 ^ 40 := tableGet_le 8 i (by decide +kernel)

theorem gainPan_le (i : Nat) : gainEntry gainPan i ≤ 2 ^ 40 := tableGet_le 8 i (by decide +kernel)

/-- The largest entry of the reference pan tables is 4.0 in 4096ths (R241). -/
theorem panProduct_le {g : Nat} (tl sdl : Nat) (hg : g ≤ 2 ^ 40) : panProduct g tl sdl ≤ 16384 := by
  refine Nat.div_le_of_le_mul ?_
  calc 16384 * g * gainEntry gainTl tl * gainEntry gainSdl sdl
      ≤ 16384 * 2 ^ 40 * 2 ^ 40 * 2 ^ 40 :=
        Nat.mul_le_mul (Nat.mul_le_mul (Nat.mul_le_mul_left 16384 hg) (gainTl_le tl)) (gainSdl_le sdl)
    _ = 2 ^ 120 * 16384 := by norm_num

theorem lpan_le {p : Params} (h : p.tables = Tables.reference) (tl pan sdl : Nat) : p.lpan tl pan sdl ≤ 16384 := by
  rw [Params.lpan_reference h, Machine.lpan]
  refine panProduct_le tl sdl ?_
  split
  · exact gainPan_le _
  · exact le_rfl

/-- R245: the range of a send of an s16 sample. -/
theorem sendOf_range {s : State} (i : Fin 64) {x : Int} (htables : s.params.tables = Tables.reference) (hx : IsS16 x) :
    -524288 ≤ (s.sendOf i x).2 ∧ (s.sendOf i x).2 ≤ 524272 := by
  have hgain : (s.params.lpan (s.tl i) 0 (s.imxl i) : Int) ≤ 16384 := by exact_mod_cast lpan_le htables _ _ _
  obtain ⟨hxlo, hxhi⟩ := hx
  rw [sendOf_eq]
  dsimp only
  generalize (s.params.lpan (s.tl i) 0 (s.imxl i)) = g at hgain
  have hbelow : -32768 * (g : Int) ≤ x * g := mul_le_mul_of_nonneg_right hxlo (Int.natCast_nonneg g)
  have habove : x * (g : Int) ≤ 32767 * g := mul_le_mul_of_nonneg_right hxhi (Int.natCast_nonneg g)
  omega

/-! ### The statements -/

/-- Settles O32: the clip, the frame of a TICK, and the range of every active slot's sample. -/
theorem tickCompletes : Obligations.TickCompletes := by
  intro e s hinv
  have hresult := tick_result s e
  refine ⟨s.tick e, mixOut (mixBy s s.params.lpan e), mixOut (mixBy s s.params.rpan e),
    (sounding s).map fun i => s.sendOf i (tickSample s i), rfl, ?_, clip16_isS16 _, clip16_isS16 _, fun a => ?_, ?_,
    fun htables x hx => ?_⟩
  · rw [← hresult]
    exact tick_frame s e
  · rw [State.ramByte, tick_ram]
    rfl
  · rw [List.map_map]
    rfl
  · obtain ⟨i, -, rfl⟩ := List.mem_map.mp hx
    exact sendOf_range i htables (tickSample_isS16 i htables hinv)

theorem sounding_single {s : State} {j : Fin 64} (hactive : s.slots[j].active = true)
    (hothers : ∀ k : Fin 64, k ≠ j → s.slots[k].active = false) : sounding s = [j] := by
  have hiff : ∀ k ∈ List.finRange 64, s.slots[k].active = (k == j) := by
    intro k _
    by_cases hk : k = j
    · rw [hk, hactive, beq_self_eq_true]
    · rw [hothers k hk, beq_eq_false_iff_ne.mpr hk]
  rw [sounding, List.filter_congr hiff, List.filter_beq,
    List.count_eq_one_of_mem (List.nodup_finRange 64) (List.mem_finRange j), List.replicate_one]

/-- One active slot and no effect return: the mix is that slot's part. -/
theorem mixBy_single {s : State} {j : Fin 64} (table : Nat → Nat → Nat → Nat) (efreg : List Word)
    (hactive : s.slots[j].active = true) (hothers : ∀ k : Fin 64, k ≠ j → s.slots[k].active = false)
    (hreturns : ∀ n, n < 16 → s.efsdl n = 0) : mixBy s table efreg = directBy s table j (tickSample s j) := by
  have hsilent : (List.range 16).map (returnBy s table efreg) = List.replicate 16 0 :=
    List.map_eq_replicate_iff.mpr fun n hn => if_pos (hreturns n (List.mem_range.mp hn))
  rw [mixBy, hsilent, List.sum_replicate, smul_zero, add_zero, sounding_single hactive hothers, List.map_singleton,
    List.sum_singleton]

/-- A slot that sounds alone gives the sample of its own update, with the draws it makes. -/
theorem tickSample_single {s : State} {j : Fin 64} (hothers : ∀ k : Fin 64, k ≠ j → s.slots[k].active = false) :
    tickSample s j = (s.slotUpdate j).2 := by
  rw [tickSample, mixTo_of_inactive fun k hk => hothers k (Fin.ne_of_lt hk)]
  rfl

/-- The unity paths of R251: at full level the reference tables give 4.0 in 4096ths, and 0 on the side that PAN 0x0F mutes. -/
theorem pan_unity :
    (Machine.lpan 0 0 15 = 16384 ∧ Machine.rpan 0 0 15 = 16384) ∧
      (Machine.lpan 0 0x0F 15 = 0 ∧ Machine.rpan 0 0x0F 15 = 16384) := by decide +kernel

/-- The gain 4.0 and the division by 8 leave half of a sample, which the clip does not meet. -/
theorem mixOut_unity {x : Int} (hx : IsS16 x) : mixOut (x * (16384 : Nat) / 4096) = x / 2 := by
  rw [mixOut_eq]
  unfold IsS16 at hx
  omega

theorem mixOut_muted (x : Int) : mixOut (x * (0 : Nat) / 4096) = 0 := by
  rw [Int.natCast_zero, mul_zero]
  decide

/-- Settles O47: the one active slot meets the state before the TICK, and its part of the mix is its sample by the pan table. -/
theorem unityPaths : Obligations.UnityPaths := by
  intro e s j htables hinv hactive hothers htl hdisdl hreturns
  have hsample := tickSample_single hothers
  have hrange := tickSample_isS16 j htables hinv
  have hmix (table : Nat → Nat → Nat → Nat) : mixBy s table e = (s.slotUpdate j).2 * table 0 (s.dipan j) 15 / 4096 := by
    rw [mixBy_single table e hactive hothers hreturns, directBy, htl, hdisdl, hsample]
  rw [hsample] at hrange
  obtain ⟨⟨hl, hr⟩, hlMuted, hrMuted⟩ := pan_unity
  refine ⟨_, (sounding s).map fun i => s.sendOf i (tickSample s i), rfl, fun hpan => ?_, fun hpan => ?_⟩
  · rw [tick_result, hmix, hmix, hpan, Params.lpan_reference htables, Params.rpan_reference htables, hl, hr,
      mixOut_unity hrange]
  · rw [tick_result, hmix, hmix, hpan, Params.lpan_reference htables, Params.rpan_reference htables, hlMuted, hrMuted,
      mixOut_unity hrange, mixOut_muted]

end Sys2Proof.Proofs
end

section
/-! Host writes of the timer words, SCIRE and IRQR (R262, R266, R268). -/

namespace Sys2Proof.Proofs

open Sys2Proof Sys2Proof.Machine

/-! ### Timer words -/

theorem exec_timerWrite (s : State) (k : Fin 3) (v : Word) {m : Word} (hm : maskAdmitted m = true) :
    exec (.w16Timer k v m) s = .next (((s.store (timerReg k) v m).reloadTimer k).ret .none) :=
  congrArg _ (hostWrite_admitted s _ hm)

/-- The reload takes the value byte of the timer's word, whatever was stored (R262). -/
theorem reloadTimer_cnt (s : State) (k : Fin 3) :
    (s.reloadTimer k).timCnt[k].toNat = (s.reg (timerReg k)).toNat % 256 * 256 := by
  rw [State.reloadTimer, State.setTim_cnt_self, bits_low, BitVec.toNat_ofNat]
  omega

theorem reloadTimer_cnt_ne (s : State) {k j : Fin 3} (h : j ≠ k) : (s.reloadTimer k).timCnt[j] = s.timCnt[j] :=
  State.setTim_cnt_ne s _ h

/-- Settles O16: the store of the word, then the reload from the word it leaves. -/
theorem timerWrite : Obligations.TimerWrite := by
  intro k v m s hm hwf
  have hstores : StoresWord s (((s.store (timerReg k) v m).reloadTimer k).ret .none) (timerReg k) v m :=
    storesWord_of_store hm hwf rfl rfl
  obtain ⟨hword, hothers, hram⟩ := hstores
  refine ⟨_, exec_timerWrite s k v hm, rfl, hword, hothers, hram, ?_, fun j hj => ?_⟩
  · exact (reloadTimer_cnt _ k).trans (congrArg (fun w : Word => w.toNat % 256 * 256) hword)
  · exact reloadTimer_cnt_ne (s.store (timerReg k) v m) hj

/-! ### SCIRE -/

theorem exec_scire (s : State) (v : Word) {m : Word} (hm : maskAdmitted m = true) :
    exec (.w16Scire v m) s = .next ((s.store scire v m).acknowledge.ret .none) :=
  congrArg _ (hostWrite_admitted s _ hm)

/-- Everything an acknowledgement does (R266). -/
theorem acknowledge_eq (s : State) :
    s.acknowledge = { s.setReg scipd (s.reg scipd &&& ~~~ s.reg scire) with
      irq := if s.reg scire &&& 0x1C0 ≠ 0 then false else s.irq } := by
  unfold State.acknowledge
  dsimp only
  split <;> rfl

theorem acknowledge_regs (s : State) : s.acknowledge.regs = (s.setReg scipd (s.reg scipd &&& ~~~ s.reg scire)).regs := by
  rw [acknowledge_eq]

theorem acknowledge_reg (s : State) (a : Nat) :
    s.acknowledge.reg a = (s.setReg scipd (s.reg scipd &&& ~~~ s.reg scire)).reg a :=
  congrArg (cellsRead · a) (acknowledge_regs s)

theorem acknowledge_scipd {s : State} (hwf : RegFile.wf s.regs = true) :
    s.acknowledge.reg scipd = s.reg scipd &&& ~~~ s.reg scire := by
  rw [acknowledge_reg, State.setReg_reg_self s scipd _ hwf]

theorem acknowledge_reg_ne (s : State) {a : Nat} (h : a ≠ scipd) : s.acknowledge.reg a = s.reg a := by
  rw [acknowledge_reg, State.setReg_reg_ne s _ h]

/-- Settles O17: the store of SCIRE, then the acknowledgement of the word it leaves. -/
theorem scireWrite : Obligations.ScireWrite := by
  intro v m s hm hwf
  have hscire : (s.store scire v m).reg scire = mergedWord (s.reg scire) v m := by
    rw [State.store_reg_self s scire v m hwf, merge_eq_mergedWord _ v hm]
  have hscipd : (s.store scire v m).reg scipd = s.reg scipd := State.store_reg_ne s v m (by decide)
  refine ⟨_, exec_scire s v hm, ?_, ?_, ?_, fun a ha => ?_, fun a => ?_⟩
  · rw [acknowledge_eq, hscire]
    rfl
  · exact (acknowledge_reg_ne _ (by decide)).trans hscire
  · refine (acknowledge_scipd (State.store_regs_wf s scire v m hwf)).trans ?_
    rw [hscire, hscipd]
    rfl
  · simp only [List.mem_cons, List.not_mem_nil, or_false, not_or] at ha
    exact (acknowledge_reg_ne _ ha.2).trans (State.store_reg_ne s v m ha.1)
  · rw [acknowledge_eq]
    rfl

/-! ### IRQR -/

theorem exec_irqr (s : State) (v : Word) {m : Word} (hm : maskAdmitted m = true) :
    exec (.w16Irqr v m) s = .next ((s.store irqr v m).requestClear.ret .none) :=
  congrArg _ (hostWrite_admitted s _ hm)

/-- Everything a stored IRQR word does (R268). -/
theorem requestClear_eq (s : State) : s.requestClear = { s with irq := if s.reg irqr ≠ 0 then false else s.irq } := by
  unfold State.requestClear
  split <;> rfl

/-- Settles O18: the store of IRQR; the word it leaves decides on the line. -/
theorem irqrWrite : Obligations.IrqrWrite := by
  intro v m s hm hwf
  have hstores : StoresWord s ((s.store irqr v m).requestClear.ret .none) irqr v m := by
    refine storesWord_of_store hm hwf ?_ ?_
    · rw [State.ret_regs, requestClear_eq]
    · rw [State.ret_ram, requestClear_eq, State.store_ram]
  have hword : (s.store irqr v m).reg irqr = mergedWord (s.reg irqr) v m := by
    rw [State.store_reg_self s irqr v m hwf, merge_eq_mergedWord _ v hm]
  refine ⟨_, exec_irqr s v hm, ?_, hstores⟩
  rw [requestClear_eq, hword]
  rfl

end Sys2Proof.Proofs
end

section
/-! The timers in a TICK (R250, R261). -/

namespace Sys2Proof.Proofs

open Sys2Proof Sys2Proof.Machine

/-! ### What a timer shows, and its turn -/

/-- All that a timer's turn reads and leaves of the timer: its counter, its word and its pending bit (R261, R263). -/
@[ext] structure TimerView where
  cnt : BitVec 16
  word : Word
  pending : Bool

/-- What timer `k` shows in a state. -/
def timerView (s : State) (k : Fin 3) : TimerView :=
  { cnt := s.timCnt[k], word := s.reg (timerReg k), pending := (s.reg scipd).getLsbD (6 + k.val) }

/-- The counter's sum in a turn, at the prescale of the timer's word (R261). -/
def TimerView.sum (x : TimerView) : Nat := x.cnt.toNat + 2 ^ (8 - x.word.toNat / 256 % 8)

/-- What a timer shows after its turn (R261): a stopped one is left alone, one that reaches the bound stops and is pending,
any other one advances. -/
def TimerView.next (x : TimerView) : TimerView :=
  if 0xFF00 < x.cnt.toNat then x
  else if 0xFF00 ≤ x.sum then { cnt := 0xFFFF, word := withValueByte x.word 0xFFFF, pending := true }
  else
    { cnt := BitVec.ofNat 16 x.sum, word := withValueByte x.word (BitVec.ofNat 16 x.sum), pending := x.pending }

theorem TimerView.next_stopped {x : TimerView} (h : 0xFF00 < x.cnt.toNat) : x.next = x := if_pos h

theorem TimerView.next_expires {x : TimerView} (h : x.cnt.toNat ≤ 0xFF00) (hn : 0xFF00 ≤ x.sum) :
    x.next = { cnt := 0xFFFF, word := withValueByte x.word 0xFFFF, pending := true } := by
  rw [TimerView.next, if_neg (Nat.not_lt_of_le h), if_pos hn]

theorem TimerView.cnt_le_sum (x : TimerView) : x.cnt.toNat ≤ x.sum := Nat.le_add_right _ _

theorem TimerView.next_advances {x : TimerView} (hn : x.sum < 0xFF00) :
    x.next = { cnt := BitVec.ofNat 16 x.sum
               word := withValueByte x.word (BitVec.ofNat 16 x.sum)
               pending := x.pending } := by
  have hcnt := x.cnt_le_sum
  rw [TimerView.next, if_neg (by omega), if_neg (by omega)]

theorem timerView_congr {s t : State} {k : Fin 3} (hcnt : t.timCnt[k] = s.timCnt[k])
    (hword : t.reg (timerReg k) = s.reg (timerReg k)) (hscipd : t.reg scipd = s.reg scipd) :
    timerView t k = timerView s k := by
  rw [timerView, timerView, hcnt, hword, hscipd]

theorem bits_prescale (w : Word) : bits w 10 8 = w.toNat / 256 % 8 := by simp [bits]

/-- The counter's step in the words of the view (R261). -/
theorem timerNext_view (s : State) (k : Fin 3) :
    timerNext s.timCnt[k] (bits (s.reg (timerReg k)) 10 8) =
      if 0xFF00 ≤ (timerView s k).sum then 0xFFFF else BitVec.ofNat 16 (timerView s k).sum := by
  rw [bits_prescale]
  rfl

/-- A counter below the bound is not the stopped one. -/
theorem ofNat_ne_stopped {n : Nat} (h : n < 0xFF00) : BitVec.ofNat 16 n ≠ 0xFFFF := by
  intro e
  have hval : n % 65536 = 65535 := congrArg BitVec.toNat e
  omega

/-- Everything a timer's turn can do (R261). -/
theorem timerTick_cases (s : State) (k : Fin 3) :
    let x := timerView s k
    (0xFF00 < x.cnt.toNat ∧ s.timerTick k = s) ∨
    (x.cnt.toNat ≤ 0xFF00 ∧ 0xFF00 ≤ x.sum ∧
      s.timerTick k = ((s.setTim k 0xFFFF).setPending k).setReg (timerReg k) (withValueByte x.word 0xFFFF)) ∨
    (x.sum < 0xFF00 ∧ s.timerTick k =
      (s.setTim k (BitVec.ofNat 16 x.sum)).setReg (timerReg k) (withValueByte x.word (BitVec.ofNat 16 x.sum))) := by
  intro x
  have hnext := timerNext_view s k
  by_cases hstopped : 0xFF00 < x.cnt.toNat
  · exact .inl ⟨hstopped, if_neg (Nat.not_le_of_lt hstopped)⟩
  have hrunning : s.timCnt[k].toNat ≤ 0xFF00 := Nat.le_of_not_lt hstopped
  refine .inr ?_
  by_cases hn : 0xFF00 ≤ x.sum
  · refine .inl ⟨hrunning, hn, ?_⟩
    rw [if_pos hn] at hnext
    unfold State.timerTick
    dsimp only
    rw [if_pos hrunning, hnext, if_pos rfl, State.setPending, State.setReg_reg_ne _ _ (scipd_ne_timerReg k)]
    rfl
  · refine .inr ⟨Nat.lt_of_not_le hn, ?_⟩
    rw [if_neg hn] at hnext
    unfold State.timerTick
    dsimp only
    rw [if_pos hrunning, hnext, if_neg (ofNat_ne_stopped (Nat.lt_of_not_le hn))]
    rfl

theorem timerBit_getLsbD (k : Fin 3) (b : Nat) : (timerBit k).getLsbD b = decide (b = 6 + k.val) := by
  by_cases hb : b < 16
  · revert k b
    decide
  · rw [BitVec.getLsbD_of_ge _ _ (Nat.le_of_not_lt hb), eq_comm, decide_eq_false_iff_not]
    omega

section
variable {s : State} (k : Fin 3) (hwf : RegFile.wf s.regs = true)
include hwf

theorem setPending_wf : RegFile.wf (s.setPending k).regs = true := State.setReg_regs_wf s scipd _ hwf

theorem setPending_bit (b : Nat) :
    ((s.setPending k).reg scipd).getLsbD b = ((s.reg scipd).getLsbD b || decide (b = 6 + k.val)) := by
  rw [State.setPending, State.setReg_reg_self s scipd _ hwf, BitVec.getLsbD_or, timerBit_getLsbD]

theorem timerTick_wf : RegFile.wf (s.timerTick k).regs = true := by
  rcases timerTick_cases s k with ⟨-, h⟩ | ⟨-, -, h⟩ | ⟨-, h⟩
  · rwa [h]
  · rw [h]
    exact State.setReg_regs_wf _ _ _ (setPending_wf (s := s.setTim k _) k hwf)
  · rw [h]
    exact State.setReg_regs_wf _ _ _ hwf

/-- A timer's turn leaves every bit of SCIPD but the timer's own (R261). -/
theorem timerTick_scipd_bit {b : Nat} (hb : b ≠ 6 + k.val) :
    ((s.timerTick k).reg scipd).getLsbD b = (s.reg scipd).getLsbD b := by
  have hscipd := (scipd_ne_timerReg k).symm
  rcases timerTick_cases s k with ⟨-, h⟩ | ⟨-, -, h⟩ | ⟨-, h⟩
  · rw [h]
  · rw [h, State.setReg_reg_ne _ _ hscipd, setPending_bit (s := s.setTim k _) k hwf, decide_eq_false hb, Bool.or_false]
    rfl
  · rw [h, State.setReg_reg_ne _ _ hscipd]
    rfl

theorem timerTick_view_self : timerView (s.timerTick k) k = (timerView s k).next := by
  have hscipd := (scipd_ne_timerReg k).symm
  rcases timerTick_cases s k with ⟨hstopped, h⟩ | ⟨hrunning, hn, h⟩ | ⟨hn, h⟩
  · rw [h, TimerView.next_stopped hstopped]
  · rw [h, TimerView.next_expires hrunning hn]
    ext1
    · exact State.setTim_cnt_self s k _
    · exact State.setReg_reg_self _ _ _ (setPending_wf (s := s.setTim k _) k hwf)
    · dsimp only [timerView]
      rw [State.setReg_reg_ne _ _ hscipd, setPending_bit (s := s.setTim k _) k hwf, decide_eq_true rfl, Bool.or_true]
  · rw [h, TimerView.next_advances hn]
    ext1
    · exact State.setTim_cnt_self s k _
    · exact State.setReg_reg_self (s.setTim k _) _ _ hwf
    · dsimp only [timerView]
      rw [State.setReg_reg_ne _ _ hscipd]
      rfl

/-- A timer's turn leaves what the other timers show. -/
theorem timerTick_view_ne {j : Fin 3} (hj : j ≠ k) : timerView (s.timerTick k) j = timerView s j := by
  ext1
  · exact timerTick_timCnt_ne s j hj
  · exact State.timerTick_reg s k (fun e => hj (timerReg_inj.mp e)) (scipd_ne_timerReg j)
  · exact timerTick_scipd_bit k hwf (by omega)

end

/-! ### The three turns, and the TICK around them -/

section
variable {s : State} (hwf : RegFile.wf s.regs = true)
include hwf

theorem timersTick_wf : RegFile.wf s.timersTick.regs = true := timerTick_wf 2 (timerTick_wf 1 (timerTick_wf 0 hwf))

/-- Every timer takes its own turn (R261). -/
theorem timersTick_view (k : Fin 3) : timerView s.timersTick k = (timerView s k).next := by
  have hwf0 := timerTick_wf 0 hwf
  have hwf1 := timerTick_wf 1 hwf0
  unfold State.timersTick
  match k with
  | 0 => rw [timerTick_view_ne 2 hwf1 (by decide), timerTick_view_ne 1 hwf0 (by decide), timerTick_view_self 0 hwf]
  | 1 => rw [timerTick_view_ne 2 hwf1 (by decide), timerTick_view_self 1 hwf0, timerTick_view_ne 0 hwf (by decide)]
  | 2 => rw [timerTick_view_self 2 hwf1, timerTick_view_ne 1 hwf0 (by decide), timerTick_view_ne 0 hwf (by decide)]

/-- The timers' turns leave every bit of SCIPD that is no timer's (R261). -/
theorem timersTick_scipd_bit {b : Nat} (hb : b < 6 ∨ 8 < b) :
    (s.timersTick.reg scipd).getLsbD b = (s.reg scipd).getLsbD b := by
  have hbit : ∀ k : Fin 3, b ≠ 6 + k.val := by omega
  have hwf0 := timerTick_wf 0 hwf
  unfold State.timersTick
  rw [timerTick_scipd_bit 2 (timerTick_wf 1 hwf0) (hbit 2), timerTick_scipd_bit 1 hwf0 (hbit 1),
    timerTick_scipd_bit 0 hwf (hbit 0)]

theorem mix_wf (efreg : List Word) : RegFile.wf (s.mix efreg).state.regs = true := by
  unfold State.mix
  rw [Mix.foldl_returnTurn_state]
  exact slotTurns_wf _ hwf

end

theorem mix_scipd (s : State) (efreg : List Word) : (s.mix efreg).state.reg scipd = s.reg scipd :=
  s.mix_reg efreg fun i => (slotReg_ne_scipd i (by decide)).symm

theorem mix_view (s : State) (efreg : List Word) (k : Fin 3) : timerView (s.mix efreg).state k = timerView s k := by
  refine timerView_congr ?_ ?_ (mix_scipd s efreg)
  · rw [State.mix_frame s efreg]
  · exact s.mix_reg efreg fun i => timerReg_ne_slotReg k i (by decide)

/-- The evaluation of the line leaves the counters as the timers' turns left them (R250, R265). -/
theorem tick_timCnt (s : State) (efreg : List Word) :
    (s.tick efreg).timCnt = (s.mix efreg).state.timersTick.timCnt := by
  unfold State.tick
  rw [State.ret_timCnt, State.checkIrq_frame]

@[inherit_doc tick_timCnt]
theorem tick_regs (s : State) (efreg : List Word) : (s.tick efreg).regs = (s.mix efreg).state.timersTick.regs := by
  unfold State.tick
  rw [State.ret_regs, State.checkIrq_frame]

theorem tick_reg_eq_timers (s : State) (efreg : List Word) (a : Nat) :
    (s.tick efreg).reg a = (s.mix efreg).state.timersTick.reg a := congrArg (cellsRead · a) (tick_regs s efreg)

section
variable {s : State} (efreg : List Word) (hwf : RegFile.wf s.regs = true)
include hwf

theorem tick_wf : RegFile.wf (s.tick efreg).regs = true := by
  rw [tick_regs]
  exact timersTick_wf (mix_wf hwf efreg)

/-- A TICK does to what a timer shows what the timer's turn does (R250, R261). -/
theorem tick_view (k : Fin 3) : timerView (s.tick efreg) k = (timerView s k).next :=
  calc timerView (s.tick efreg) k
      = timerView (s.mix efreg).state.timersTick k :=
        timerView_congr (by rw [tick_timCnt]) (tick_reg_eq_timers s efreg _) (tick_reg_eq_timers s efreg _)
    _ = (timerView (s.mix efreg).state k).next := timersTick_view (mix_wf hwf efreg) k
    _ = (timerView s k).next := by rw [mix_view]

theorem tick_scipd_bit {b : Nat} (hb : b < 6 ∨ 8 < b) :
    ((s.tick efreg).reg scipd).getLsbD b = (s.reg scipd).getLsbD b := by
  rw [tick_reg_eq_timers, timersTick_scipd_bit (mix_wf hwf efreg) hb, mix_scipd]

end

/-- Settles O30: each timer's turn, by whether the counter is stopped, reaches the bound or stays below it. -/
theorem timersTick : Obligations.TimersTick := by
  intro e s t hwf hexec
  obtain rfl : s.tick e = t := Host.Outcome.next.inj hexec
  refine ⟨fun k => ?_, fun b hb => tick_scipd_bit e hwf hb⟩
  have hview := tick_view e hwf k
  dsimp only
  split
  · rename_i hrunning
    by_cases hn : 0xFF00 ≤ (timerView s k).sum
    · rw [TimerView.next_expires hrunning hn] at hview
      obtain ⟨hcnt, hword, hpending⟩ := TimerView.mk.inj hview
      refine ⟨fun _ => ⟨hcnt, hpending⟩, fun hlt => absurd hn (Nat.not_le_of_lt hlt), ?_⟩
      rw [hcnt]
      exact hword
    · have hlt := Nat.lt_of_not_le hn
      rw [TimerView.next_advances hlt] at hview
      obtain ⟨hcnt, hword, hpending⟩ := TimerView.mk.inj hview
      refine ⟨fun hle => absurd hle hn, fun _ => ⟨?_, hpending⟩, ?_⟩
      · rw [hcnt, BitVec.toNat_ofNat]
        exact Nat.mod_eq_of_lt (by omega)
      · rw [hcnt]
        exact hword
  · rename_i hstopped
    rw [TimerView.next_stopped (x := timerView s k) (Nat.lt_of_not_le hstopped)] at hview
    obtain ⟨hcnt, hword, hpending⟩ := TimerView.mk.inj hview
    exact ⟨hcnt, hword, hpending⟩

end Sys2Proof.Proofs
end

section
/-! The period of a timer, over every run of TICKs after a write of its word (R264). -/

namespace Sys2Proof.Proofs

open Sys2Proof Sys2Proof.Machine

/-! ### A run of turns -/

/-- A run of TICKs is a run of the timer's turns (R250, R261). -/
theorem ticks_view {s t : State} {k : Fin 3} {ticks : List (List Word)} (hwf : RegFile.wf s.regs = true)
    (hrun : runOps (ticks.map Instr.tick) s = .next t) :
    timerView t k = TimerView.next^[ticks.length] (timerView s k) := by
  induction ticks generalizing s with
  | nil => rw [Host.Outcome.next.inj hrun]; rfl
  | cons e ticks ih =>
    rw [runOps_tick_cons] at hrun
    rw [ih (tick_wf e hwf) hrun, tick_view e hwf, List.length_cons, Function.iterate_succ_apply]

/-- How many turns a timer of value byte `v` and prescale `p` runs (R264). -/
def periodTurns (v p : Nat) : Nat := if v = 255 then 1 else (255 - v) * 2 ^ p

/-- The counter reaches the bound in turn `n`, the first at the earliest, from the period on (R264). -/
theorem periodTurns_le_iff {v p n : Nat} (hv : v < 256) (hp : p < 8) (hn : 0 < n) :
    periodTurns v p ≤ n ↔ 0xFF00 ≤ v * 256 + n * 2 ^ (8 - p) := by
  have hscale : 2 ^ p * 2 ^ (8 - p) = 256 := by rw [← Nat.pow_add, Nat.add_sub_cancel' (by omega)]
  have hstep : (255 - v) * 2 ^ p ≤ n ↔ (255 - v) * 256 ≤ n * 2 ^ (8 - p) := by
    rw [← Nat.mul_le_mul_right_iff (Nat.two_pow_pos (8 - p)), Nat.mul_assoc, hscale]
  unfold periodTurns
  split <;> omega

theorem periodTurns_pos {v : Nat} (p : Nat) (hv : v < 256) : 0 < periodTurns v p := by
  unfold periodTurns
  split
  · decide
  · exact Nat.mul_pos (by omega) (Nat.two_pow_pos p)

/-! ### The states of a timer in its period -/

/-- The timer has run `n` turns since a write of word `w`: counter, value byte and prescale show it, and the pending bit is
as it was, `q` (R261, R262). -/
structure TimerRuns (w : Word) (q : Bool) (n : Nat) (x : TimerView) : Prop where
  cnt : x.cnt.toNat = w.toNat % 256 * 256 + n * 2 ^ (8 - w.toNat / 256 % 8)
  prescale : x.word.toNat / 256 = w.toNat / 256
  value : x.word.toNat % 256 = x.cnt.toNat / 256
  pending : x.pending = q

/-- The timer has stopped at its end (R261). -/
structure TimerExpired (x : TimerView) : Prop where
  cnt : x.cnt = 0xFFFF
  value : x.word.toNat % 256 = 255
  pending : x.pending = true

/-- The counter's byte goes to the value byte of the word, and the prescale stays (R261). -/
theorem withValueByte_value (w : Word) (c : BitVec 16) : (withValueByte w c).toNat % 256 = c.toNat / 256 := by
  rw [← bits_low, bits_withValueByte]

theorem withValueByte_prescale (w : Word) (c : BitVec 16) : (withValueByte w c).toNat / 256 = w.toNat / 256 := by
  have hparts : withValueByte w c = (w &&& 0xFF00#16) ||| (c >>> 8) := rfl
  have hshift : withValueByte w c >>> 8 = w >>> 8 := by
    refine BitVec.eq_of_getLsbD_eq fun b hb => ?_
    have hmask : (0xFF00#16).getLsbD (8 + b) = decide (b < 8) := by
      revert b
      decide
    have hpast : c.getLsbD (8 + (8 + b)) = false := BitVec.getLsbD_of_ge c _ (by omega)
    rw [BitVec.getLsbD_ushiftRight, BitVec.getLsbD_ushiftRight, hparts, BitVec.getLsbD_or, BitVec.getLsbD_and,
      BitVec.getLsbD_ushiftRight, hmask, hpast, Bool.or_false]
    by_cases hlow : b < 8
    · rw [decide_eq_true hlow, Bool.and_true]
    · rw [BitVec.getLsbD_of_ge w _ (by omega), Bool.false_and]
  have hvalue := congrArg BitVec.toNat hshift
  rwa [BitVec.toNat_ushiftRight, BitVec.toNat_ushiftRight, Nat.shiftRight_eq_div_pow, Nat.shiftRight_eq_div_pow] at hvalue

section
variable {w : Word} {q : Bool} {n : Nat} {x : TimerView}

theorem TimerRuns.sum_eq (h : TimerRuns w q n x) :
    x.sum = w.toNat % 256 * 256 + (n + 1) * 2 ^ (8 - w.toNat / 256 % 8) := by
  rw [TimerView.sum, h.cnt, h.prescale]
  ring

/-- The bound is reached in the turn that completes the period (R264). -/
theorem TimerRuns.expires_iff (h : TimerRuns w q n x) :
    0xFF00 ≤ x.sum ↔ periodTurns (w.toNat % 256) (w.toNat / 256 % 8) ≤ n + 1 := by
  rw [h.sum_eq, periodTurns_le_iff (Nat.mod_lt _ (by decide)) (Nat.mod_lt _ (by decide)) n.succ_pos]

/-- Within its period the timer is not stopped (R261). -/
theorem TimerRuns.cnt_le (h : TimerRuns w q n x) (hn : n < periodTurns (w.toNat % 256) (w.toNat / 256 % 8)) :
    x.cnt.toNat ≤ 0xFF00 := by
  rw [h.cnt]
  match n with
  | 0 => omega
  | n + 1 =>
    have hbound := mt (periodTurns_le_iff (v := w.toNat % 256) (p := w.toNat / 256 % 8) (n := n + 1)
      (Nat.mod_lt _ (by decide)) (Nat.mod_lt _ (by decide)) n.succ_pos).mpr (Nat.not_le_of_lt hn)
    omega

theorem TimerRuns.next (h : TimerRuns w q n x) (hn : n + 1 < periodTurns (w.toNat % 256) (w.toNat / 256 % 8)) :
    TimerRuns w q (n + 1) x.next := by
  have hsum : x.sum < 0xFF00 := Nat.lt_of_not_le (mt h.expires_iff.mp (Nat.not_le_of_lt hn))
  rw [TimerView.next_advances hsum]
  refine ⟨?_, ?_, withValueByte_value _ _, h.pending⟩
  · rw [BitVec.toNat_ofNat, Nat.mod_eq_of_lt (by omega), h.sum_eq]
  · rw [withValueByte_prescale, h.prescale]

theorem TimerRuns.next_expired (h : TimerRuns w q n x)
    (hn : n < periodTurns (w.toNat % 256) (w.toNat / 256 % 8))
    (hlast : periodTurns (w.toNat % 256) (w.toNat / 256 % 8) ≤ n + 1) : TimerExpired x.next := by
  rw [TimerView.next_expires (h.cnt_le hn) (h.expires_iff.mpr hlast)]
  exact ⟨rfl, withValueByte_value _ _, rfl⟩

theorem TimerExpired.next (h : TimerExpired x) : TimerExpired x.next := by
  rwa [TimerView.next_stopped (by rw [h.cnt]; decide)]

/-- Within its period the timer runs, from then on it is stopped and pending (R264). -/
theorem timerView_iterate (h : TimerRuns w q 0 x) (n : Nat) :
    (n < periodTurns (w.toNat % 256) (w.toNat / 256 % 8) → TimerRuns w q n (TimerView.next^[n] x)) ∧
      (periodTurns (w.toNat % 256) (w.toNat / 256 % 8) ≤ n → TimerExpired (TimerView.next^[n] x)) := by
  induction n with
  | zero => exact ⟨fun _ => h, fun hzero => absurd hzero (Nat.not_le_of_lt (periodTurns_pos _ (Nat.mod_lt _ (by decide))))⟩
  | succ n ih =>
    obtain ⟨hruns, hexpired⟩ := ih
    rw [Function.iterate_succ_apply']
    refine ⟨fun hn => (hruns (by omega)).next hn, fun hlast => ?_⟩
    by_cases hn : n < periodTurns (w.toNat % 256) (w.toNat / 256 % 8)
    · exact (hruns hn).next_expired hn hlast
    · exact (hexpired (Nat.le_of_not_lt hn)).next

end

/-! ### The statement -/

/-- What timer `k` shows after a full write of its word: the word, its value byte in the counter, and the pending bit as it
was (R262, R263). -/
theorem timerWrite_view {r s : State} {k : Fin 3} {w : Word} (hwf : RegFile.wf r.regs = true)
    (hwrite : exec (.w16Timer k w 0xFFFF) r = .next s) :
    RegFile.wf s.regs = true ∧ (timerView s k).cnt.toNat = w.toNat % 256 * 256 ∧ (timerView s k).word = w ∧
      (timerView s k).pending = (r.reg scipd).getLsbD (6 + k.val) := by
  rw [exec_timerWrite r k w (by decide)] at hwrite
  obtain rfl := Host.Outcome.next.inj hwrite
  have hword : (r.store (timerReg k) w 0xFFFF).reg (timerReg k) = w := by
    rw [State.store_reg_self r _ w 0xFFFF hwf, merge_full]
  have hscipd : (r.store (timerReg k) w 0xFFFF).reg scipd = r.reg scipd :=
    State.store_reg_ne r w 0xFFFF (scipd_ne_timerReg k).symm
  have hcnt := reloadTimer_cnt (r.store (timerReg k) w 0xFFFF) k
  rw [hword] at hcnt
  exact ⟨State.store_regs_wf r _ w 0xFFFF hwf, hcnt, hword, congrArg (BitVec.getLsbD · (6 + k.val)) hscipd⟩

/-- A timer that shows a written word stands at the start of its period. -/
theorem timerRuns_start {w : Word} {q : Bool} {x : TimerView} (hcnt : x.cnt.toNat = w.toNat % 256 * 256)
    (hword : x.word = w) (hpending : x.pending = q) : TimerRuns w q 0 x where
  cnt := by rw [hcnt, Nat.zero_mul, Nat.add_zero]
  prescale := by rw [hword]
  value := by rw [hword, hcnt, Nat.mul_div_cancel _ (by decide)]
  pending := hpending

/-- The value byte counts up once every `2^p` turns (R261). -/
theorem value_after (v n : Nat) {p : Nat} (hp : p < 8) : (v * 256 + n * 2 ^ (8 - p)) / 256 = v + n / 2 ^ p := by
  have hscale : 256 = 2 ^ p * 2 ^ (8 - p) := by rw [← Nat.pow_add, Nat.add_sub_cancel' (by omega)]
  rw [Nat.mul_comm v, Nat.mul_add_div (by decide)]
  congr 1
  conv_lhs => rw [hscale]
  exact Nat.mul_div_mul_right _ _ (Nat.two_pow_pos _)

/-- Settles O31: the write starts the period, and the TICKs are the timer's turns in it. -/
theorem timerPeriod : Obligations.TimerPeriod := by
  intro k w r s t ticks hwf hwrite hticks
  obtain ⟨hswf, hstartCnt, hstartWord, hstartPending⟩ := timerWrite_view hwf hwrite
  obtain ⟨hruns, hexpired⟩ := timerView_iterate (timerRuns_start hstartCnt hstartWord hstartPending) ticks.length
  rw [← ticks_view hswf hticks] at hruns hexpired
  refine ⟨fun hn => ?_, fun hn => ?_⟩
  · obtain ⟨hcnt, -, hvalue, hpending⟩ := hruns hn
    refine ⟨hcnt, ?_, hpending⟩
    rw [hcnt, value_after _ _ (Nat.mod_lt _ (by decide))] at hvalue
    exact hvalue
  · obtain ⟨hcnt, hvalue, hpending⟩ := hexpired hn
    exact ⟨hcnt, hvalue, hpending⟩

end Sys2Proof.Proofs
end

section
/-! The interrupt line after an evaluation (R265, R269). -/

namespace Sys2Proof.Proofs

open Sys2Proof Sys2Proof.Machine

/-! ### The evaluation of the line -/

/-- Settles O26: with its input set, the evaluation asserts the line for MIDI. -/
theorem midiNotify : Obligations.MidiNotify := fun _ => ⟨rfl, rfl⟩

/-- The word that an evaluation tests: the sources both pending and enabled (R265). -/
def pendingEnabled (s : State) : Word := s.reg 0x28A0 &&& s.reg 0x289C

/-- Timer `k` asserts the line exactly when its bit is pending and enabled (R263, R265). -/
theorem timerAsserts_eq (s : State) (k : Fin 3) : s.timerAsserts k = (pendingEnabled s).getLsbD (6 + k.val) := by
  have htimerBit : timerBit k = BitVec.twoPow 16 (6 + k.val) := by
    revert k
    decide
  have hnonzero : (timerBit k != 0#16) = true := by
    revert k
    decide
  have hasserts : s.timerAsserts k = (pendingEnabled s &&& timerBit k != 0#16) := rfl
  rw [hasserts, htimerBit, BitVec.and_twoPow, ← htimerBit]
  split
  · rename_i hbit
    rw [hnonzero, hbit]
  · rename_i hbit
    rw [bne_self_eq_false, Bool.eq_false_iff.mpr hbit]

/-- The line and the source of its last assertion (R39). -/
def lineOf (s : State) : Bool × IrqSrc := (s.irq, s.irqSrc)

/-- What an evaluation makes of a line, by priority: MIDI, then the pending and enabled timers A, B, C; with no source it
stays (R265). -/
def lineAfter (midi : Bool) (pend : Word) (line : Bool × IrqSrc) : Bool × IrqSrc :=
  if midi = true then (true, .midi)
  else if pend.getLsbD 6 = true then (true, .tima)
  else if pend.getLsbD 7 = true then (true, .timb)
  else if pend.getLsbD 8 = true then (true, .timc)
  else line

theorem checkIrq_line (s : State) : lineOf s.checkIrq = lineAfter s.midiPending (pendingEnabled s) (lineOf s) := by
  have hA : (pendingEnabled s).getLsbD 6 = s.timerAsserts 0 := (timerAsserts_eq s 0).symm
  have hB : (pendingEnabled s).getLsbD 7 = s.timerAsserts 1 := (timerAsserts_eq s 1).symm
  have hC : (pendingEnabled s).getLsbD 8 = s.timerAsserts 2 := (timerAsserts_eq s 2).symm
  rw [lineAfter, hA, hB, hC]
  rcases s.checkIrq_cases with ⟨hm, h⟩ | ⟨hm, ha, h⟩ | ⟨hm, ha, hb, h⟩ | ⟨hm, ha, hb, hc, h⟩ | ⟨hm, ha, hb, hc, h⟩
  · rw [h, hm]; rfl
  · rw [h, hm, ha]; rfl
  · rw [h, hm, ha, hb]; rfl
  · rw [h, hm, ha, hb, hc]; rfl
  · rw [h, hm, ha, hb, hc]; rfl

/-- The line of `t` is what an evaluation makes of the line of `s` by the sources that `t` shows. -/
def LineEvaluated (s t : State) : Prop := lineOf t = lineAfter t.midiPending (pendingEnabled t) (lineOf s)

/-- The evaluation leaves the sources it tests, so that they show in its result (R265). -/
theorem checkIrq_evaluates (s : State) (r : Result) : LineEvaluated s (s.checkIrq.ret r) := by
  have hmidi : (s.checkIrq.ret r).midiPending = s.midiPending := by rw [State.checkIrq_frame]; rfl
  have hpend : pendingEnabled (s.checkIrq.ret r) = pendingEnabled s := by rw [State.checkIrq_frame]; rfl
  rw [LineEvaluated, hmidi, hpend, ← checkIrq_line]
  rfl

/-- The mix and the timers' turns leave the line alone (R250). -/
theorem timersTick_mix_line (s : State) (efreg : List Word) : lineOf (s.mix efreg).state.timersTick = lineOf s := by
  rw [lineOf, State.timersTick_frame, State.mix_frame s efreg, lineOf]

theorem tick_evaluates (s : State) (efreg : List Word) : LineEvaluated s (s.tick efreg) := by
  rw [LineEvaluated, ← timersTick_mix_line s efreg]
  exact checkIrq_evaluates (s.mix efreg).state.timersTick _

/-- Settles O27: a TICK and a MIDI_NOTIFY 1 end in an evaluation, and what comes before it leaves the line alone. -/
theorem irqEvaluation : Obligations.IrqEvaluation := by
  intro i s t hi hexec
  have hline : LineEvaluated s t := by
    obtain ⟨e, rfl⟩ | rfl := hi
    · obtain rfl : s.tick e = t := Host.Outcome.next.inj hexec
      exact tick_evaluates s e
    · obtain rfl := Host.Outcome.next.inj hexec
      exact checkIrq_evaluates (s.setMidi true) .none
  unfold LineEvaluated lineAfter pendingEnabled at hline
  dsimp only
  split_ifs at hline ⊢ <;> exact Prod.mk.inj hline

end Sys2Proof.Proofs
end

section
/-! What sets and what clears the timers' pending bits (R263, R307). -/

namespace Sys2Proof.Proofs

open Sys2Proof Sys2Proof.Machine

/-! ### Operations that keep SCIPD -/

/-- The operation leaves SCIPD as it is. -/
def KeepsScipd (s t : State) : Prop := t.reg scipd = s.reg scipd

theorem keepsScipd_store (s : State) {a : Nat} (v m : Word) (ha : a ≠ scipd) : KeepsScipd s (s.store a v m) :=
  State.store_reg_ne s v m ha.symm

/-- A host write keeps SCIPD when its effect does; for a bad byte enable it has none (R66). -/
theorem keepsScipd_hostWrite {s : State} (m : Word) {effect : State → State} (h : KeepsScipd s (effect s)) :
    KeepsScipd s (s.hostWrite m effect) := by
  cases hm : byteEnableOk m with
  | true => rw [State.hostWrite_ok s effect hm]; exact h
  | false => rw [State.hostWrite_bad s effect hm]; exact rfl

theorem keepsScipd_refusedWrite (s : State) (a m : Word) :
    KeepsScipd s (if byteEnableOk m then s.refuse (.outOfScopeRegister a) else s.refuse .badByteEnable) := by
  split <;> rfl

theorem keepsScipd_slotWord (s : State) (i : Fin 64) {o : Nat} (v m : Word) (ho : o < 0x80) :
    KeepsScipd s (s.store (slotReg i o) v m) := keepsScipd_store s v m (slotReg_ne_scipd i ho)

theorem keepsScipd_keyExecute {s : State} (i : Fin 64) (hwf : RegFile.wf s.regs = true) :
    KeepsScipd s (s.keyExecute i) := by
  cases h : s.kyonex i with
  | false => rw [keyExecute_idle h]; exact rfl
  | true =>
    exact (keyExecute_reg_ne h (slotReg_ne_scipd i (by decide)).symm).trans
      (keyScan_reg hwf fun j e => absurd e.symm (slotReg_ne_scipd j (by decide)))

theorem keepsScipd_slotCtrl {s : State} (i : Fin 64) (v m : Word) (hwf : RegFile.wf s.regs = true) :
    KeepsScipd s ((s.store (slotReg i 0x00) v m).keyExecute i) :=
  (keepsScipd_keyExecute i (State.store_regs_wf s _ v m hwf)).trans (keepsScipd_slotWord s i v m (by decide))

theorem keepsScipd_requestClear (s : State) : KeepsScipd s s.requestClear := by
  rw [requestClear_eq]
  exact rfl

theorem keepsScipd_fadeConfigure (s : State) (lengthS fadeS : BitVec 64) :
    KeepsScipd s (if badFadeOperand lengthS || badFadeOperand fadeS then s.refuse .badFadeOperand
      else (s.setFade (s.fade.configure lengthS fadeS)).ret .none) := by
  split <;> rfl

theorem keepsScipd_midiNotify (s : State) (p : Bool) :
    KeepsScipd s ((if p then (s.setMidi true).checkIrq else s.setMidi false).ret .none) := by
  cases p with
  | true => rfl
  | false => rfl

/-- The operations that may change SCIPD (R263, R307): the timers' turns, SCIRE, a host write of SCIPD and RESET. -/
inductive WritesScipd : Instr → Prop
  | tick (e : List Word) : WritesScipd (.tick e)
  | scire (v m : Word) : WritesScipd (.w16Scire v m)
  | host (v m : Word) : WritesScipd (.w16Common 0x28A0 v m)
  | reset : WritesScipd .reset

/-- The words at an offset of their own that an operation may store, by where they lie (R82). -/
theorem toNat_ne_scipd {a : Word}
    (h : isSlotReg a = true ∨ isEfspanReg a = true ∨ isMonitorReg a = true) : a.toNat ≠ scipd := by
  rw [isSlotReg_iff, isEfspanReg_iff, isMonitorReg_iff] at h
  unfold scipd
  omega

/-- A host write of another common word than SCIPD. -/
theorem common_ne_scipd {a v m : Word} (hw : ¬WritesScipd (.w16Common a v m)) : a.toNat ≠ scipd := by
  intro e
  obtain rfl : a = 0x28A0 := BitVec.eq_of_toNat_eq e
  exact hw (.host v m)

theorem keepsScipd_storeWrite (s : State) {a : Nat} (v m : Word) (ha : a ≠ scipd) : KeepsScipd s (s.storeWrite a v m) :=
  keepsScipd_hostWrite m (keepsScipd_store s v m ha)

theorem keepsScipd_slotWrite (s : State) (i : Fin 64) {o : Nat} (v m : Word) (ho : o < 0x80) :
    KeepsScipd s (s.storeWrite (slotReg i o) v m) := keepsScipd_storeWrite s v m (slotReg_ne_scipd i ho)

/-- Any other operation keeps SCIPD. -/
theorem exec_keepsScipd {s : State} (hwf : RegFile.wf s.regs = true) : ∀ {i : Instr}, i.wf = true → ¬WritesScipd i →
    ∃ t, exec i s = .next t ∧ KeepsScipd s t
  | .r16RefuseOdd _, _, _ => ⟨_, rfl, rfl⟩
  | .r16RefuseWindow _, _, _ => ⟨_, rfl, rfl⟩
  | .r16Slot _, _, _ => ⟨_, rfl, rfl⟩
  | .r16Efspan _, _, _ => ⟨_, rfl, rfl⟩
  | .r16Unmapped _, _, _ => ⟨_, rfl, rfl⟩
  | .r16Refused _, _, _ => ⟨_, rfl, rfl⟩
  | .r16Monitor _, _, _ => ⟨_, rfl, rfl⟩
  | .r16Common _, _, _ => ⟨_, rfl, rfl⟩
  | .r16Irqreg _, _, _ => ⟨_, rfl, rfl⟩
  | .w16RefuseOdd _ _ _, _, _ => ⟨_, rfl, rfl⟩
  | .w16RefuseWindow _ _ _, _, _ => ⟨_, rfl, rfl⟩
  | .w16SlotCtrl i v m, _, _ => ⟨_, rfl, keepsScipd_hostWrite m (keepsScipd_slotCtrl i v m hwf)⟩
  | .w16SlotEgrel i v m, _, _ => ⟨_, rfl, keepsScipd_hostWrite m (keepsScipd_slotWord s i (o := 0x14) v m (by decide))⟩
  | .w16SlotPitch i v m, _, _ => ⟨_, rfl, keepsScipd_hostWrite m (keepsScipd_slotWord s i (o := 0x18) v m (by decide))⟩
  | .w16SlotLfo i v m, _, _ => ⟨_, rfl, keepsScipd_hostWrite m (keepsScipd_slotWord s i (o := 0x1C) v m (by decide))⟩
  | .w16SlotSa i v m, _, _ => ⟨_, rfl, keepsScipd_slotWrite s i v m (by decide)⟩
  | .w16SlotLsa i v m, _, _ => ⟨_, rfl, keepsScipd_slotWrite s i v m (by decide)⟩
  | .w16SlotLea i v m, _, _ => ⟨_, rfl, keepsScipd_slotWrite s i v m (by decide)⟩
  | .w16SlotEgrate i v m, _, _ => ⟨_, rfl, keepsScipd_slotWrite s i v m (by decide)⟩
  | .w16SlotDspsend i v m, _, _ => ⟨_, rfl, keepsScipd_slotWrite s i v m (by decide)⟩
  | .w16SlotDirect i v m, _, _ => ⟨_, rfl, keepsScipd_slotWrite s i v m (by decide)⟩
  | .w16SlotTl i v m, _, _ => ⟨_, rfl, keepsScipd_slotWrite s i v m (by decide)⟩
  | .w16SlotStore _ v m, hi, _ => ⟨_, rfl, keepsScipd_storeWrite s v m
      (toNat_ne_scipd (.inl (Bool.and_elim_left hi)))⟩
  | .w16Efspan _ v m, hi, _ => ⟨_, rfl, keepsScipd_storeWrite s v m (toNat_ne_scipd (.inr (.inl hi)))⟩
  | .w16Unmapped _ _ m, _, _ => ⟨_, rfl, keepsScipd_hostWrite m rfl⟩
  | .w16Refused a _ m, _, _ => ⟨_, rfl, keepsScipd_refusedWrite s a m⟩
  | .w16Monitor _ v m, hi, _ => ⟨_, rfl, keepsScipd_storeWrite s v m (toNat_ne_scipd (.inr (.inr hi)))⟩
  | .w16Timer k v m, _, _ => ⟨_, rfl, keepsScipd_hostWrite m (keepsScipd_store s v m (scipd_ne_timerReg k))⟩
  | .w16Scire v m, _, hw => absurd (.scire v m) hw
  | .w16Common _ v m, _, hw => ⟨_, rfl, keepsScipd_storeWrite s v m (common_ne_scipd hw)⟩
  | .w16Irql v m, _, _ => ⟨_, rfl, keepsScipd_storeWrite s v m (by decide)⟩
  | .w16Irqr v m, _, _ => ⟨_, rfl, keepsScipd_hostWrite m
      ((keepsScipd_requestClear _).trans (keepsScipd_store s v m (by decide)))⟩
  | .tick e, _, hw => absurd (.tick e) hw
  | .fadeConfigure l f, _, _ => ⟨_, rfl, keepsScipd_fadeConfigure s l f⟩
  | .fadeAdvance _ _, _, _ => ⟨_, rfl, rfl⟩
  | .fadeCount, _, _ => ⟨_, rfl, rfl⟩
  | .fadeTotal, _, _ => ⟨_, rfl, rfl⟩
  | .reset, _, hw => absurd .reset hw
  | .midiNotify p, _, _ => ⟨_, rfl, keepsScipd_midiNotify s p⟩
  | .reserved _ _, _, _ => ⟨_, rfl, rfl⟩

/-! ### The operations that change SCIPD -/

/-- A turn sets the pending bit or leaves it (R261). -/
theorem TimerView.next_pending {x : TimerView} (h : x.pending = true) : x.next.pending = true := by
  unfold TimerView.next
  split
  · exact h
  · split
    · rfl
    · exact h

/-- A write of SCIRE sets no pending bit (R266). -/
theorem scire_bit {s t : State} {v m : Word} {b : Nat} (hwf : RegFile.wf s.regs = true)
    (hexec : exec (.w16Scire v m) s = .next t) (h : (s.reg scipd).getLsbD b = false) :
    (t.reg scipd).getLsbD b = false := by
  obtain rfl := Host.Outcome.next.inj hexec
  cases hm : byteEnableOk m with
  | false => rw [State.hostWrite_bad s _ hm]; exact h
  | true =>
    rw [State.hostWrite_ok s _ hm, State.ret_reg, acknowledge_scipd (State.store_regs_wf s scire v m hwf),
      State.store_reg_ne s v m (by decide), BitVec.getLsbD_and, h, Bool.false_and]

theorem resetOp_reg (s : State) (a : Nat) : s.resetOp.reg a = 0#16 := rfl

/-- Settles O29: an operation that writes SCIPD at all is one of the four, and each of them by what it does to the bit. -/
theorem pendingBits : Obligations.PendingBits := by
  intro i s t k hi hwf hexec
  by_cases hw : WritesScipd i
  · cases hw with
    | tick e =>
      obtain rfl : s.tick e = t := Host.Outcome.next.inj hexec
      refine ⟨fun _ _ => .inl ⟨e, rfl⟩, fun hset hclear => ?_⟩
      have hpending := TimerView.next_pending (x := timerView s k) hset
      rw [← tick_view e hwf k] at hpending
      exact absurd (hpending.symm.trans hclear) (by decide)
    | scire v m =>
      refine ⟨fun hclear hset => ?_, fun _ _ => .inl ⟨v, m, rfl⟩⟩
      exact absurd ((scire_bit hwf hexec hclear).symm.trans hset) (by decide)
    | host v m => exact ⟨fun _ _ => .inr ⟨v, m, rfl⟩, fun _ _ => .inr (.inl ⟨v, m, rfl⟩)⟩
    | reset =>
      obtain rfl : s.resetOp = t := Host.Outcome.next.inj hexec
      refine ⟨fun _ hset => ?_, fun _ _ => .inr (.inr rfl)⟩
      rw [resetOp_reg, BitVec.getLsbD_zero] at hset
      cases hset
  · obtain ⟨u, hu, hkeeps⟩ := exec_keepsScipd hwf hi hw
    obtain rfl : u = t := Host.Outcome.next.inj (hu.symm.trans hexec)
    have hbit : (u.reg 0x28A0).getLsbD (6 + k.val) = (s.reg 0x28A0).getLsbD (6 + k.val) :=
      congrArg (BitVec.getLsbD · (6 + k.val)) hkeeps
    rw [hbit]
    exact ⟨fun hclear hset => absurd (hclear.symm.trans hset) (by decide),
      fun hset hclear => absurd (hset.symm.trans hclear) (by decide)⟩

end Sys2Proof.Proofs
end

section
/-! The fader's functions, case by case (R283, R284), and one FADE_ADVANCE. -/

namespace Sys2Proof.Proofs

open Sys2Proof Sys2Proof.Machine

/-! ### The end of the fade -/

theorem atEnd_iff (f : Fader) :
    f.atEnd = true ↔ f.enabled = true ∧ (f.done = true ∨ f.endAt.toNat ≤ f.counter.toNat) := by
  simp [Fader.atEnd]

theorem atEnd_of_disabled {f : Fader} (hoff : f.enabled = false) : f.atEnd = false := by
  rw [Fader.atEnd, hoff, Bool.false_and]

theorem atEnd_of_counting {f : Fader} (hdone : f.done = false) (hc : f.counter.toNat < f.endAt.toNat) :
    f.atEnd = false := by
  simp [Fader.atEnd, hdone, hc]

/-! ### One sample of a channel -/

theorem apply_disabled {f : Fader} (hoff : f.enabled = false) (x : Int) : f.apply x = x := by
  rw [Fader.apply, hoff]
  rfl

theorem apply_ended {f : Fader} (hend : f.atEnd = true) (x : Int) : f.apply x = 0 := by
  obtain ⟨hon, -⟩ := (atEnd_iff f).mp hend
  simp [Fader.apply, hon, hend]

theorem apply_before {f : Fader} (hend : f.atEnd = false) (hc : f.counter.toNat < f.beginAt.toNat) (x : Int) :
    f.apply x = x := by
  have hnot : ¬f.beginAt.toNat ≤ f.counter.toNat := by omega
  simp [Fader.apply, hend, hnot]

theorem apply_ramp {f : Fader} (hon : f.enabled = true) (hend : f.atEnd = false)
    (hc : f.beginAt.toNat ≤ f.counter.toNat) (x : Int) : f.apply x = x * f.ramp / 256 := by
  simp [Fader.apply, hon, hend, hc, sar]

/-- The branches of R283 on a channel: it passes, it is silent, or it is scaled within the ramp. -/
theorem apply_cases (f : Fader) (x : Int) :
    f.apply x = x ∨ f.apply x = 0 ∨
      (f.beginAt.toNat ≤ f.counter.toNat ∧ f.counter.toNat < f.endAt.toNat ∧ f.apply x = x * f.ramp / 256) := by
  by_cases hoff : f.enabled = false
  · exact .inl (apply_disabled hoff x)
  have hon : f.enabled = true := Bool.eq_true_of_not_eq_false hoff
  by_cases hend : f.atEnd = true
  · exact .inr (.inl (apply_ended hend x))
  have hcounting : f.counter.toNat < f.endAt.toNat := by
    rw [atEnd_iff] at hend
    exact Nat.lt_of_not_le fun hle => hend ⟨hon, .inr hle⟩
  have hend' : f.atEnd = false := Bool.eq_false_of_not_eq_true hend
  rcases Nat.lt_or_ge f.counter.toNat f.beginAt.toNat with hc | hc
  · exact .inl (apply_before hend' hc x)
  · exact .inr (.inr ⟨hc, hcounting, apply_ramp hon hend' hc x⟩)

/-! ### The ramp -/

/-- The fader value of R284 as a number of 256ths: never 0 before the end, and never more than the whole. -/
theorem ramp_range {f : Fader} (hc : f.beginAt.toNat ≤ f.counter.toNat) (hcounting : f.counter.toNat < f.endAt.toNat) :
    ∃ a : Nat, f.ramp = a ∧ 1 ≤ a ∧ a ≤ 256 := by
  have hfall : 256 * (f.counter.toNat - f.beginAt.toNat) / (f.endAt.toNat - f.beginAt.toNat) < 256 :=
    Nat.div_lt_of_lt_mul (by omega)
  refine ⟨256 - 256 * (f.counter.toNat - f.beginAt.toNat) / (f.endAt.toNat - f.beginAt.toNat), ?_,
    by omega, Nat.sub_le _ _⟩
  rw [Fader.ramp, Nat.cast_sub hfall.le]
  rfl

theorem ramp_antitone {f g : Fader} (hbegin : f.beginAt = g.beginAt) (hend : f.endAt = g.endAt)
    (hc : f.counter.toNat ≤ g.counter.toNat) : g.ramp ≤ f.ramp := by
  have hfall : 256 * (f.counter.toNat - g.beginAt.toNat) / (g.endAt.toNat - g.beginAt.toNat) ≤
      256 * (g.counter.toNat - g.beginAt.toNat) / (g.endAt.toNat - g.beginAt.toNat) :=
    Nat.div_le_div_right (by omega)
  rw [Fader.ramp, Fader.ramp, hbegin, hend]
  omega

/-- In every branch a channel keeps its sign and does not grow (R289). -/
theorem apply_towardZero (f : Fader) (x : Int) :
    (0 ≤ x → 0 ≤ f.apply x ∧ f.apply x ≤ x) ∧ (x < 0 → x ≤ f.apply x ∧ f.apply x ≤ 0) := by
  rcases apply_cases f x with h | h | ⟨hc, hcounting, h⟩
  · omega
  · omega
  · obtain ⟨a, hramp, -, ha⟩ := ramp_range hc hcounting
    have hunits : x * (a * 16) / 4096 = x * a / 256 := by
      rw [← mul_assoc]
      omega
    obtain ⟨hpos, hneg⟩ := scaled_towardZero x ha
    rw [hunits] at hpos hneg
    rw [h, hramp]
    exact ⟨hpos, fun hx => hneg hx.le⟩

/-! ### One FADE_ADVANCE -/

/-- The state FADE_ADVANCE leaves (R283). -/
def advanced (s : State) (l r : Word) : State :=
  (s.setFade s.fade.next).ret (.stereo (s.fade.apply l.toInt) (s.fade.apply r.toInt))

theorem exec_fadeAdvance (l r : Word) (s : State) : exec (.fadeAdvance l r) s = .next (advanced s l r) := rfl

@[simp] theorem advanced_fade (s : State) (l r : Word) : (advanced s l r).fade = s.fade.next := rfl

@[simp] theorem advanced_result (s : State) (l r : Word) :
    (advanced s l r).result = .stereo (s.fade.apply l.toInt) (s.fade.apply r.toInt) := rfl

theorem next_done (f : Fader) : f.next.done = (f.done || f.atEnd) := rfl

theorem next_done_of_enabled {f : Fader} (hon : f.enabled = true) : f.next.done = f.atEnd := by
  rw [next_done, Fader.atEnd, hon]
  cases f.done <;> rfl

theorem next_done_of_not_atEnd {f : Fader} (hend : f.atEnd = false) : f.next.done = f.done := by
  rw [next_done, hend, Bool.or_false]

/-! ### The statements -/

/-- Settles O51: the branches of R283, each by what it does to a channel and to `done`. -/
theorem fadeAdvance : Obligations.FadeAdvance := by
  intro l r s f c b z k
  refine ⟨_, exec_fadeAdvance l r s, rfl, fun _ => rfl, rfl, ?disabled, ?ended, ?ramp, ?before⟩ <;>
    rw [advanced_result, advanced_fade]
  case disabled =>
    intro hoff
    rw [apply_disabled hoff, apply_disabled hoff]
    exact ⟨rfl, next_done_of_not_atEnd (atEnd_of_disabled hoff)⟩
  case ended =>
    intro hon hdone
    have hend : s.fade.atEnd = true := (atEnd_iff _).mpr ⟨hon, hdone⟩
    rw [apply_ended hend, apply_ended hend]
    exact ⟨rfl, (next_done_of_enabled hon).trans hend⟩
  case ramp =>
    intro hon hdone hcounting hc
    have hend : s.fade.atEnd = false := atEnd_of_counting hdone hcounting
    rw [apply_ramp hon hend hc, apply_ramp hon hend hc]
    exact ⟨rfl, (next_done_of_enabled hon).trans hend⟩
  case before =>
    intro hon hdone hcounting hc
    have hend : s.fade.atEnd = false := atEnd_of_counting hdone hcounting
    rw [apply_before hend hc, apply_before hend hc]
    exact ⟨rfl, (next_done_of_enabled hon).trans hend⟩

/-- Settles O52: each channel by `apply_towardZero`, and the ramp by its range and its fall. -/
theorem fadeBounds : Obligations.FadeBounds := by
  refine ⟨fun l r s t hexec => ?_, fun f g hbegin hend hc hfg hcounting => ?_⟩
  · obtain rfl : advanced s l r = t := Host.Outcome.next.inj hexec
    obtain ⟨hlpos, hlneg⟩ := apply_towardZero s.fade l.toInt
    obtain ⟨hrpos, hrneg⟩ := apply_towardZero s.fade r.toInt
    exact ⟨_, _, advanced_result s l r, hlpos, hlneg, hrpos, hrneg⟩
  · obtain ⟨a, hf, -, ha⟩ := ramp_range hc (by rw [hend]; omega)
    obtain ⟨b, hg, hb, -⟩ := ramp_range (f := g) (by rw [← hbegin]; omega) hcounting
    have hfall := ramp_antitone hbegin hend hfg
    omega

/-- Settles O54: the two stored words (R286, R287), and what the fader's invariant says of a disabled fade. -/
theorem fadeCounts : Obligations.FadeCounts := by
  intro s
  refine ⟨rfl, rfl, fun hinv hoff => ?_⟩
  obtain ⟨-, hdisabled⟩ := hinv
  obtain ⟨-, -, hend⟩ := hdisabled hoff
  have hword : s.fade.endAt = 0xFFFFFFFF := BitVec.eq_of_toNat_eq hend
  rw [← hword]
  rfl

end Sys2Proof.Proofs
end

section
/-! A song over every run of FADE_ADVANCE (R285, R288). -/

namespace Sys2Proof.Proofs

open Sys2Proof Sys2Proof.Machine

/-! ### The fader after `n` samples -/

/-- The fade `f` after `n` samples of its song: the counter holds `n`, and `done` tells that a sample at `end` or later is
among them (R283, R285). -/
def played (f : Fader) (n : Nat) : Fader :=
  { f with counter := BitVec.ofNat 32 n, done := decide (f.endAt.toNat < n) }

theorem played_counter (f : Fader) {n : Nat} (hn : n < 0x100000000) : (played f n).counter.toNat = n := by
  rw [played, BitVec.toNat_ofNat, Nat.mod_eq_of_lt hn]

theorem played_zero {f : Fader} (hcounter : f.counter = 0) (hdone : f.done = false) : played f 0 = f := by
  cases f
  cases hcounter
  cases hdone
  simp [played]

/-- While the counter does not wrap, a song is at its end from sample `end` on. -/
theorem played_atEnd {f : Fader} {n : Nat} (hon : f.enabled = true) (hn : n < 0x100000000) :
    (played f n).atEnd = decide (f.endAt.toNat ≤ n) := by
  have hiff : (played f n).atEnd = true ↔ f.endAt.toNat ≤ n := by
    rw [atEnd_iff, played_counter f hn]
    simp only [played, hon, true_and, decide_eq_true_eq]
    omega
  rw [Bool.eq_iff_iff, hiff, decide_eq_true_iff]

theorem played_next {f : Fader} {n : Nat} (hon : f.enabled = true) (hn : n < 0x100000000) :
    (played f n).next = played f (n + 1) := by
  have hcounter : (played f n).counter + 1 = (played f (n + 1)).counter := (BitVec.ofNat_add n 1).symm
  have hdone : (played f n).next.done = (played f (n + 1)).done := by
    rw [next_done_of_enabled (f := played f n) hon, played_atEnd hon hn, played]
    simp only [Nat.lt_succ_iff]
  calc (played f n).next
      = { f with counter := (played f n).counter + 1, done := (played f n).next.done } := rfl
    _ = { f with counter := (played f (n + 1)).counter, done := (played f (n + 1)).done } := by rw [hcounter, hdone]
    _ = played f (n + 1) := rfl

/-! ### Every run of FADE_ADVANCE -/

theorem runOps_fadeAdvance_cons (x : Word × Word) (samples : List (Word × Word)) (s : State) :
    runOps ((x :: samples).map fun x => .fadeAdvance x.1 x.2) s =
      runOps (samples.map fun x => .fadeAdvance x.1 x.2) (advanced s x.1 x.2) := rfl

/-- A run of FADE_ADVANCE takes a song on by as many samples (R285). -/
theorem run_played {f : Fader} (hon : f.enabled = true) {samples : List (Word × Word)} {s t : State} {n : Nat}
    (hs : s.fade = played f n) (hn : n + samples.length < 0x100000000)
    (hrun : runOps (samples.map fun x => .fadeAdvance x.1 x.2) s = .next t) :
    t.fade = played f (n + samples.length) := by
  induction samples generalizing s n with
  | nil =>
    obtain rfl : s = t := Host.Outcome.next.inj hrun
    exact hs
  | cons x samples ih =>
    rw [runOps_fadeAdvance_cons] at hrun
    rw [List.length_cons] at hn ⊢
    have hnext : (advanced s x.1 x.2).fade = played f (n + 1) := by
      rw [advanced_fade, hs, played_next hon (by omega)]
    rw [ih hnext (by omega) hrun, Nat.add_assoc, Nat.add_comm 1]

/-- Settles O53: the run leaves the song `played` by its samples, and the next sample is one FADE_ADVANCE of that. -/
theorem fadeSong : Obligations.FadeSong := by
  intro s t u samples l r hon hdone hcounter hbounds hlength hrun hexec n
  obtain rfl : advanced t l r = u := Host.Outcome.next.inj hexec
  have hn : n < 0x100000000 := by omega
  have ht : t.fade = played s.fade n := by
    have hrun' := run_played hon (played_zero hcounter hdone).symm (by omega) hrun
    rwa [Nat.zero_add] at hrun'
  have hcount : t.fade.counter.toNat = n := by rw [ht, played_counter s.fade hn]
  have hend : t.fade.atEnd = decide (s.fade.endAt.toNat ≤ n) := by rw [ht, played_atEnd hon hn]
  have hmark : t.fade.done = true ↔ s.fade.endAt.toNat < n := by rw [ht]; exact decide_eq_true_iff
  have hbegin : t.fade.beginAt = s.fade.beginAt := by rw [ht]; rfl
  have hon' : t.fade.enabled = true := by rw [ht]; exact hon
  refine ⟨hcount, hbegin, by rw [ht]; rfl, hmark, fun hbefore => ?passes, fun hpast => ?silent, fun hnotDone => ?ends⟩
  case passes =>
    have hnot : t.fade.atEnd = false := by rw [hend, decide_eq_false_iff_not]; omega
    have hc : t.fade.counter.toNat < t.fade.beginAt.toNat := by rwa [hcount, hbegin]
    rw [advanced_result, apply_before hnot hc, apply_before hnot hc]
  case silent =>
    have hat : t.fade.atEnd = true := by rw [hend, decide_eq_true_iff]; exact hpast
    rw [advanced_result, apply_ended hat, apply_ended hat]
  case ends =>
    have hle : ¬s.fade.endAt.toNat < n := fun hlt => Bool.false_ne_true (hnotDone.symm.trans (hmark.mpr hlt))
    rw [advanced_fade, next_done_of_enabled hon', hend, decide_eq_true_iff]
    omega

end Sys2Proof.Proofs
end

section
/-! The f64 operands of FADE_CONFIGURE and the indices it sets (R281, R282). -/

namespace Sys2Proof.Proofs

open Sys2Proof Sys2Proof.Machine

/-! ### The value of an f64 pattern -/

/-- A finite pattern's magnitude, its value up to sign. -/
def magnitude (b : BitVec 64) : ℚ := (f64Mant b : ℚ) * 2 ^ ((f64Exp b : ℤ) - 1075)

theorem f64Value_eq (b : BitVec 64) :
    f64Value b =
      if f64NotFinite b = true then none else some (if b.getLsbD 63 = true then -magnitude b else magnitude b) := by
  unfold f64Value magnitude
  split
  · rfl
  · split
    · rw [neg_one_mul, neg_mul]
    · rw [one_mul]

/-- Zero has the patterns without a bit below the sign (assumption log 13). -/
theorem f64Mant_eq_zero_iff (b : BitVec 64) : f64Mant b = 0 ↔ b.toNat % 2 ^ 63 = 0 := by
  unfold f64Mant
  split <;> omega

theorem magnitude_nonneg (b : BitVec 64) : 0 ≤ magnitude b := by
  unfold magnitude
  positivity

theorem magnitude_eq_zero_iff (b : BitVec 64) : magnitude b = 0 ↔ f64IsZero b = true := by
  have hscale : (2 : ℚ) ^ ((f64Exp b : ℤ) - 1075) ≠ 0 := by positivity
  rw [magnitude, mul_eq_zero_iff_right hscale, Nat.cast_eq_zero, f64Mant_eq_zero_iff, f64IsZero, beq_iff_eq]

theorem f64Negative_iff (b : BitVec 64) : f64Negative b = true ↔ b.getLsbD 63 = true ∧ magnitude b ≠ 0 := by
  rw [Ne, magnitude_eq_zero_iff, f64IsZero, beq_iff_eq, f64Negative, Bool.and_eq_true, decide_eq_true_iff]

/-- The model's test of an operand is the one of R303: no value, or a negative one. -/
theorem badFadeOperand_eq (b : BitVec 64) : badFadeOperand b = badSeconds b := by
  rw [badFadeOperand, badSeconds, f64Value_eq]
  cases hfinite : f64NotFinite b with
  | true => rfl
  | false =>
    have hnonneg := magnitude_nonneg b
    rw [Bool.false_or, Bool.eq_iff_iff, f64Negative_iff]
    cases b.getLsbD 63 with
    | true => simp [hnonneg.lt_iff_ne']
    | false => simp [hnonneg]

/-- A finite pattern of a value not below 0, -0.0 among them: its value is its magnitude, and it is no bad operand. -/
theorem f64Value_nonneg {b : BitVec 64} {p : ℚ} (hvalue : f64Value b = some p) (hp : 0 ≤ p) :
    p = magnitude b ∧ badFadeOperand b = false := by
  have hgood : badFadeOperand b = false := by
    rw [badFadeOperand_eq, badSeconds, hvalue]
    exact decide_eq_false (not_lt.mpr hp)
  refine ⟨?_, hgood⟩
  have hnonneg := magnitude_nonneg b
  rw [f64Value_eq] at hvalue
  split at hvalue
  · cases hvalue
  · have hsigned := Option.some.inj hvalue
    split at hsigned <;> linarith

/-! ### Seconds as samples -/

/-- The rounding of R282: the exact product, a half of a sample upward, and the floor. -/
theorem samplesOfSeconds_eq (b : BitVec 64) : samplesOfSeconds b = ⌊magnitude b * 44100 + 1 / 2⌋₊ := by
  unfold samplesOfSeconds
  dsimp only
  split
  case isTrue hwhole =>
    have hproduct : magnitude b * 44100 = ((f64Mant b * 44100 * 2 ^ (f64Exp b - 1075) : ℕ) : ℚ) := by
      have hscale : (f64Exp b : ℤ) - 1075 = (f64Exp b - 1075 : ℕ) := by omega
      rw [magnitude, hscale, zpow_natCast]
      push_cast
      ring
    rw [hproduct, add_comm, Nat.floor_add_natCast (by norm_num), Nat.floor_eq_zero.mpr (by norm_num), Nat.zero_add]
  case isFalse hfraction =>
    have hproduct : magnitude b * 44100 + 1 / 2 =
        ((f64Mant b * 44100 + 2 ^ (1074 - f64Exp b) : ℕ) : ℚ) / ((2 ^ (1075 - f64Exp b) : ℕ) : ℚ) := by
      have hscale : (f64Exp b : ℤ) - 1075 = -((1074 - f64Exp b + 1 : ℕ) : ℤ) := by omega
      have hpow : 1075 - f64Exp b = 1074 - f64Exp b + 1 := by omega
      rw [magnitude, hscale, hpow, zpow_neg, zpow_natCast]
      push_cast
      field_simp
      ring
    rw [hproduct, Nat.floor_div_eq_div]

/-! ### FADE_CONFIGURE -/

theorem exec_fadeConfigure_bad {a b : BitVec 64} (h : badFadeOperand a = true ∨ badFadeOperand b = true) (s : State) :
    exec (.fadeConfigure a b) s = .next (s.refuse .badFadeOperand) := by
  have hbad : (badFadeOperand a || badFadeOperand b) = true := by rwa [Bool.or_eq_true]
  exact congrArg Host.Outcome.next (if_pos hbad)

theorem exec_fadeConfigure_good {a b : BitVec 64} (ha : badFadeOperand a = false) (hb : badFadeOperand b = false)
    (s : State) : exec (.fadeConfigure a b) s = .next ((s.setFade (s.fade.configure a b)).ret .none) := by
  have hgood : ¬(badFadeOperand a || badFadeOperand b) = true := by simp [ha, hb]
  exact congrArg Host.Outcome.next (if_neg hgood)

/-- A length of 0 never fades (R281). -/
theorem configure_zero (f : Fader) {a : BitVec 64} (b : BitVec 64) (ha : f64IsZero a = true) :
    f.configure a b = { Fader.idle with counter := f.counter } := by
  rw [Fader.configure, if_pos ha]
  rfl

theorem configure_length (f : Fader) {a : BitVec 64} (b : BitVec 64) (ha : f64IsZero a = false) :
    f.configure a b =
      { counter := f.counter
        beginAt := sat32 (samplesOfSeconds a)
        endAt := sat32 ((sat32 (samplesOfSeconds a)).toNat + samplesOfSeconds b)
        enabled := true
        done := false } := by
  rw [Fader.configure, ha]
  rfl

/-- A new configuration is not done, and the counter goes on (R281). -/
theorem configure_counter_done (f : Fader) (a b : BitVec 64) :
    (f.configure a b).counter = f.counter ∧ (f.configure a b).done = false := by
  cases ha : f64IsZero a with
  | true => rw [configure_zero f b ha]; exact ⟨rfl, rfl⟩
  | false => rw [configure_length f b ha]; exact ⟨rfl, rfl⟩

/-- Settles O50: the operands' test and rounding in rational numbers, and the two cases of the length. -/
theorem fadeConfigure : Obligations.FadeConfigure := by
  refine ⟨fun a b s hbad => ?refused, fun a b p q s hp hq hp0 hq0 => ?configured⟩
  case refused =>
    rw [← badFadeOperand_eq, ← badFadeOperand_eq] at hbad
    exact exec_fadeConfigure_bad hbad s
  case configured =>
    obtain ⟨rfl, ha⟩ := f64Value_nonneg hp hp0
    obtain ⟨rfl, hb⟩ := f64Value_nonneg hq hq0
    obtain ⟨hcounter, hdone⟩ := configure_counter_done s.fade a b
    refine ⟨_, exec_fadeConfigure_good ha hb s, rfl, fun _ => rfl, hcounter, hdone, fun hzero => ?_, fun hlength => ?_⟩
    · rw [State.ret_fade, State.setFade_fade, configure_zero s.fade b ((magnitude_eq_zero_iff a).mp hzero)]
      exact ⟨rfl, rfl, rfl⟩
    · rw [Ne, magnitude_eq_zero_iff, Bool.not_eq_true] at hlength
      rw [State.ret_fade, State.setFade_fade, configure_length s.fade b hlength, ← samplesOfSeconds_eq,
        ← samplesOfSeconds_eq]
      exact ⟨rfl, sat32_toNat _, sat32_toNat _⟩

end Sys2Proof.Proofs
end

section
/-! Chip and fader do not interfere (R280): what the chip's operations do whatever the fader holds, and what the fade operations
leave alone. -/

namespace Sys2Proof.Proofs

open Sys2Proof Sys2Proof.Machine

/-! ### Operations that do not see the fader -/

/-- The operation neither reads nor writes the fader: it does the same to a state with another one. -/
def FadeBlind (g : State → State) : Prop := ∀ (s : State) (f : Fader), g (s.setFade f) = (g s).setFade f

/-- To put the fader there that is there already shows that a blind operation keeps it. -/
theorem fadeBlind_fade {g : State → State} (h : FadeBlind g) (s : State) : (g s).fade = s.fade := by
  rw [show g s = (g s).setFade s.fade from h s s.fade, State.setFade_fade]

theorem fadeBlind_comp {g k : State → State} (hg : FadeBlind g) (hk : FadeBlind k) : FadeBlind fun s => k (g s) := by
  intro s f
  dsimp only
  rw [hg, hk]

theorem ite_setFade {c : Prop} [Decidable c] {x y x' y' : State} {f : Fader} (hx : x' = x.setFade f)
    (hy : y' = y.setFade f) : (if c then x' else y') = (if c then x else y).setFade f := by
  split
  · exact hx
  · exact hy

theorem fadeBlind_ret (r : Result) : FadeBlind (·.ret r) := fun _ _ => rfl

theorem fadeBlind_refuse (why : RefuseReason) : FadeBlind (·.refuse why) := fun _ _ => rfl

theorem fadeBlind_readStored (a : Word) : FadeBlind (·.readStored a) := fun _ _ => rfl

theorem fadeBlind_readDraw : FadeBlind State.readDraw := fun _ _ => rfl

theorem fadeBlind_store (a : Nat) (v m : Word) : FadeBlind (·.store a v m) := fun _ _ => rfl

theorem fadeBlind_setMidi (p : Bool) : FadeBlind (·.setMidi p) := fun _ _ => rfl

/-! ### Latches, acknowledgements and the interrupt line -/

theorem fadeBlind_latchRelease (i : Fin 64) : FadeBlind (·.latchRelease i) := fun _ _ => rfl

theorem fadeBlind_latchPitch (i : Fin 64) : FadeBlind (·.latchPitch i) := fun _ _ => rfl

theorem fadeBlind_latchLfo (i : Fin 64) : FadeBlind (·.latchLfo i) := fun _ _ => rfl

theorem fadeBlind_reloadTimer (k : Fin 3) : FadeBlind (·.reloadTimer k) := fun _ _ => rfl

theorem fadeBlind_acknowledge : FadeBlind State.acknowledge := fun _ _ => ite_setFade rfl rfl

theorem fadeBlind_requestClear : FadeBlind State.requestClear := fun _ _ => ite_setFade rfl rfl

theorem fadeBlind_checkIrq : FadeBlind State.checkIrq := fun _ _ =>
  ite_setFade rfl (ite_setFade rfl (ite_setFade rfl (ite_setFade rfl rfl)))

/-! ### The key scan -/

/-- The walk of key-on reads wave RAM and the parameters (R131). -/
theorem keyOnWalk_setFade (s : State) (f : Fader) (fuel n base : Nat) (p : Predictor) (d : Nat) :
    (s.setFade f).keyOnWalk fuel n base p d = s.keyOnWalk fuel n base p d := by
  induction fuel generalizing n base p d with
  | zero => rfl
  | succ fuel ih =>
    rw [State.keyOnWalk, State.keyOnWalk, ih]
    rfl

theorem fadeBlind_adpcmKeyOn (i : Fin 64) : FadeBlind (·.adpcmKeyOn i) := by
  intro s f
  simp only [State.adpcmKeyOn, keyOnWalk_setFade]
  exact ite_setFade rfl rfl

theorem fadeBlind_keyOn (i : Fin 64) : FadeBlind (·.keyOn i) := fun s f =>
  ite_setFade (fadeBlind_adpcmKeyOn i (s.setSlot i (s.keyOnSlot i s.slots[i])) f) rfl

theorem fadeBlind_scanSlot (i : Fin 64) : FadeBlind (·.scanSlot i) := fun s f =>
  ite_setFade (ite_setFade (fadeBlind_keyOn i (s.setSlot i { s.slots[i] with lpend := false }) f) rfl) rfl

theorem fadeBlind_keyScan : FadeBlind State.keyScan := fun _ f =>
  List.foldl_hom (State.setFade · f) fun s i => fadeBlind_scanSlot i s f

theorem fadeBlind_keyExecute (i : Fin 64) : FadeBlind (·.keyExecute i) := fun s f =>
  ite_setFade (congrArg (fun t => t.setReg (slotReg i 0x00) (t.sr i 0x00 &&& ~~~ 0x8000)) (fadeBlind_keyScan s f)) rfl

/-! ### The TICK -/

theorem setFade_agreeOn (s : State) (f : Fader) (i : Fin 64) : s.agreeOn (s.setFade f) i :=
  ⟨rfl, fun _ _ => rfl, rfl, fun _ => rfl, rfl⟩

theorem fadeBlind_commitRun (i : Fin 64) (r : SlotRun) : FadeBlind (·.commitRun i r) := fun _ _ => ite_setFade rfl rfl

/-- A slot's update gives the same sample, and leaves the same state but for the fader (R182). -/
theorem slotUpdate_setFade (s : State) (f : Fader) (i : Fin 64) :
    (s.setFade f).slotUpdate i = ((s.slotUpdate i).1.setFade f, (s.slotUpdate i).2) := by
  have hrun := slotRun_congr (setFade_agreeOn s f i) rfl s.slots[i]
  unfold State.slotUpdate
  rw [ssctl_congr (setFade_agreeOn s f i)]
  split
  · rfl
  · dsimp only [State.setFade_slots]
    rw [hrun]
    exact congrArg (Prod.mk · _) (fadeBlind_commitRun i _ s f)

/-- A TICK under way, with another fader. -/
def mixSetFade (m : Mix) (f : Fader) : Mix := { m with state := m.state.setFade f }

theorem slotTurn_setFade (m : Mix) (f : Fader) (i : Fin 64) :
    (mixSetFade m f).slotTurn i = mixSetFade (m.slotTurn i) f := by
  have hactive : (mixSetFade m f).state.slots[i].active = m.state.slots[i].active := rfl
  rw [Mix.slotTurn, Mix.slotTurn, hactive]
  split
  · dsimp only [mixSetFade]
    rw [slotUpdate_setFade]
    rfl
  · rfl

theorem mix_setFade (s : State) (f : Fader) (efreg : List Word) : (s.setFade f).mix efreg = mixSetFade (s.mix efreg) f := by
  unfold State.mix Mix.slotTurns
  rw [← List.foldl_hom (g₂ := Mix.returnTurn efreg) (mixSetFade · f) fun _ _ => rfl,
    ← List.foldl_hom (mixSetFade · f) (slotTurn_setFade · f)]
  rfl

theorem fadeBlind_setTim (k : Fin 3) (c : BitVec 16) : FadeBlind (·.setTim k c) := fun _ _ => rfl

theorem fadeBlind_markExpired (k : Fin 3) (c : BitVec 16) : FadeBlind fun s => if c = 0xFFFF then s.setPending k else s :=
  fun _ _ => ite_setFade rfl rfl

theorem fadeBlind_showValue (k : Fin 3) (c : BitVec 16) :
    FadeBlind fun s => s.setReg (timerReg k) (withValueByte (s.reg (timerReg k)) c) := fun _ _ => rfl

/-- A timer that counts sets its counter, marks its end, and shows its value, none of which sees the fader (R261). -/
theorem fadeBlind_timerTick (k : Fin 3) : FadeBlind (·.timerTick k) := fun s f =>
  have hcounts (c : BitVec 16) :=
    fadeBlind_comp (fadeBlind_comp (fadeBlind_setTim k c) (fadeBlind_markExpired k c)) (fadeBlind_showValue k c)
  ite_setFade (hcounts (timerNext s.timCnt[k] (bits (s.reg (timerReg k)) 10 8)) s f) rfl

theorem fadeBlind_timersTick : FadeBlind State.timersTick :=
  have hturns := fadeBlind_comp (fadeBlind_comp (fadeBlind_timerTick 0) (fadeBlind_timerTick 1)) (fadeBlind_timerTick 2)
  hturns

/-- A TICK mixes, sends and draws the same whatever the fader holds (R250, R280). -/
theorem fadeBlind_tick (efreg : List Word) : FadeBlind (·.tick efreg) := by
  intro s f
  have hline := fadeBlind_comp fadeBlind_timersTick fadeBlind_checkIrq (s.mix efreg).state f
  dsimp only at hline ⊢
  rw [State.tick, State.tick, mix_setFade]
  dsimp only [mixSetFade]
  rw [hline]
  rfl

/-! ### Host writes and MIDI_NOTIFY -/

theorem fadeBlind_hostWrite (m : Word) {effect : State → State} (h : FadeBlind effect) :
    FadeBlind (·.hostWrite m effect) := fun s f =>
  ite_setFade (congrArg (State.ret · .none) (h s f)) rfl

theorem fadeBlind_storeWrite (a : Nat) (v m : Word) : FadeBlind (·.storeWrite a v m) :=
  fadeBlind_hostWrite m (fadeBlind_store a v m)

theorem fadeBlind_storeThen (a : Nat) (v m : Word) {after : State → State} (h : FadeBlind after) :
    FadeBlind (·.hostWrite m fun s => after (s.store a v m)) :=
  fadeBlind_hostWrite m (fadeBlind_comp (fadeBlind_store a v m) h)

theorem fadeBlind_refusedWrite (a m : Word) :
    FadeBlind fun s => if byteEnableOk m then s.refuse (.outOfScopeRegister a) else s.refuse .badByteEnable :=
  fun _ _ => ite_setFade rfl rfl

theorem fadeBlind_midiNotify (p : Bool) :
    FadeBlind fun s => (if p then (s.setMidi true).checkIrq else s.setMidi false).ret .none := fun s f =>
  congrArg (State.ret · .none)
    (ite_setFade (fadeBlind_comp (fadeBlind_setMidi true) fadeBlind_checkIrq s f) (fadeBlind_setMidi false s f))

/-! ### The operations -/

/-- The fade operations (R80, op codes 3 to 6). -/
inductive FadeOp : Instr → Prop
  | configure (a b : BitVec 64) : FadeOp (.fadeConfigure a b)
  | advance (l r : Word) : FadeOp (.fadeAdvance l r)
  | count : FadeOp .fadeCount
  | total : FadeOp .fadeTotal

/-- Every operation but RESET and the fade operations is blind to the fader (R280). -/
theorem exec_fadeBlind : ∀ {i : Instr}, ¬FadeOp i → i ≠ .reset →
    ∃ g : State → State, FadeBlind g ∧ ∀ s, exec i s = .next (g s)
  | .r16RefuseOdd _, _, _ => ⟨_, fadeBlind_refuse _, fun _ => rfl⟩
  | .r16RefuseWindow _, _, _ => ⟨_, fadeBlind_refuse _, fun _ => rfl⟩
  | .r16Slot a, _, _ => ⟨_, fadeBlind_readStored a, fun _ => rfl⟩
  | .r16Efspan a, _, _ => ⟨_, fadeBlind_readStored a, fun _ => rfl⟩
  | .r16Unmapped _, _, _ => ⟨_, fadeBlind_readDraw, fun _ => rfl⟩
  | .r16Refused _, _, _ => ⟨_, fadeBlind_refuse _, fun _ => rfl⟩
  | .r16Monitor _, _, _ => ⟨_, fadeBlind_readDraw, fun _ => rfl⟩
  | .r16Common a, _, _ => ⟨_, fadeBlind_readStored a, fun _ => rfl⟩
  | .r16Irqreg a, _, _ => ⟨_, fadeBlind_readStored a, fun _ => rfl⟩
  | .w16RefuseOdd _ _ _, _, _ => ⟨_, fadeBlind_refuse _, fun _ => rfl⟩
  | .w16RefuseWindow _ _ _, _, _ => ⟨_, fadeBlind_refuse _, fun _ => rfl⟩
  | .w16SlotCtrl i v m, _, _ => ⟨_, fadeBlind_storeThen _ v m (fadeBlind_keyExecute i), fun _ => rfl⟩
  | .w16SlotEgrel i v m, _, _ => ⟨_, fadeBlind_storeThen _ v m (fadeBlind_latchRelease i), fun _ => rfl⟩
  | .w16SlotPitch i v m, _, _ => ⟨_, fadeBlind_storeThen _ v m (fadeBlind_latchPitch i), fun _ => rfl⟩
  | .w16SlotLfo i v m, _, _ => ⟨_, fadeBlind_storeThen _ v m (fadeBlind_latchLfo i), fun _ => rfl⟩
  | .w16SlotSa _ v m, _, _ => ⟨_, fadeBlind_storeWrite _ v m, fun _ => rfl⟩
  | .w16SlotLsa _ v m, _, _ => ⟨_, fadeBlind_storeWrite _ v m, fun _ => rfl⟩
  | .w16SlotLea _ v m, _, _ => ⟨_, fadeBlind_storeWrite _ v m, fun _ => rfl⟩
  | .w16SlotEgrate _ v m, _, _ => ⟨_, fadeBlind_storeWrite _ v m, fun _ => rfl⟩
  | .w16SlotDspsend _ v m, _, _ => ⟨_, fadeBlind_storeWrite _ v m, fun _ => rfl⟩
  | .w16SlotDirect _ v m, _, _ => ⟨_, fadeBlind_storeWrite _ v m, fun _ => rfl⟩
  | .w16SlotTl _ v m, _, _ => ⟨_, fadeBlind_storeWrite _ v m, fun _ => rfl⟩
  | .w16SlotStore _ v m, _, _ => ⟨_, fadeBlind_storeWrite _ v m, fun _ => rfl⟩
  | .w16Efspan _ v m, _, _ => ⟨_, fadeBlind_storeWrite _ v m, fun _ => rfl⟩
  | .w16Unmapped _ _ m, _, _ => ⟨_, fadeBlind_hostWrite m (effect := id) fun _ _ => rfl, fun _ => rfl⟩
  | .w16Refused a _ m, _, _ => ⟨_, fadeBlind_refusedWrite a m, fun _ => rfl⟩
  | .w16Monitor _ v m, _, _ => ⟨_, fadeBlind_storeWrite _ v m, fun _ => rfl⟩
  | .w16Timer k v m, _, _ => ⟨_, fadeBlind_storeThen _ v m (fadeBlind_reloadTimer k), fun _ => rfl⟩
  | .w16Scire v m, _, _ => ⟨_, fadeBlind_storeThen _ v m fadeBlind_acknowledge, fun _ => rfl⟩
  | .w16Common _ v m, _, _ => ⟨_, fadeBlind_storeWrite _ v m, fun _ => rfl⟩
  | .w16Irql v m, _, _ => ⟨_, fadeBlind_storeWrite _ v m, fun _ => rfl⟩
  | .w16Irqr v m, _, _ => ⟨_, fadeBlind_storeThen _ v m fadeBlind_requestClear, fun _ => rfl⟩
  | .tick efreg, _, _ => ⟨_, fadeBlind_tick efreg, fun _ => rfl⟩
  | .fadeConfigure a b, hchip, _ => absurd (.configure a b) hchip
  | .fadeAdvance l r, hchip, _ => absurd (.advance l r) hchip
  | .fadeCount, hchip, _ => absurd .count hchip
  | .fadeTotal, hchip, _ => absurd .total hchip
  | .reset, _, hreset => absurd rfl hreset
  | .midiNotify p, _, _ => ⟨_, fadeBlind_midiNotify p, fun _ => rfl⟩
  | .reserved _ _, _, _ => ⟨_, fadeBlind_refuse _, fun _ => rfl⟩

/-- A fade operation writes the fader, its result and the mark, nothing else. -/
theorem fadeOp_frame {i : Instr} (hi : FadeOp i) (s : State) :
    ∃ t, exec i s = .next t ∧ t = { s with fade := t.fade, result := t.result, refused := t.refused } := by
  cases hi with
  | configure a b =>
    cases hbad : badFadeOperand a || badFadeOperand b with
    | true => exact ⟨_, exec_fadeConfigure_bad ((Bool.or_eq_true _ _).mp hbad) s, rfl⟩
    | false =>
      obtain ⟨ha, hb⟩ := Bool.or_eq_false_iff.mp hbad
      exact ⟨_, exec_fadeConfigure_good ha hb s, rfl⟩
  | advance l r => exact ⟨_, exec_fadeAdvance l r s, rfl⟩
  | count => exact ⟨_, rfl, rfl⟩
  | total => exact ⟨_, rfl, rfl⟩

/-- Settles O55: the chip's operations are blind to the fader, and the fade operations write nothing of the chip. -/
theorem fadeNoninterference : Obligations.FadeNoninterference := by
  constructor
  · intro i s t f hconfigure hadvance hcount htotal hreset hexec
    have hchip : ¬FadeOp i := by
      rintro (⟨a, b⟩ | ⟨l, r⟩ | _ | _)
      exacts [hconfigure a b rfl, hadvance l r rfl, hcount rfl, htotal rfl]
    obtain ⟨g, hblind, hg⟩ := exec_fadeBlind hchip hreset
    obtain rfl : g s = t := Host.Outcome.next.inj ((hg s).symm.trans hexec)
    exact ⟨fadeBlind_fade hblind s, (hg (s.setFade f)).trans (congrArg Host.Outcome.next (hblind s f))⟩
  · intro i s t hop hexec
    have hi : FadeOp i := by
      rcases hop with ⟨a, b, rfl⟩ | ⟨l, r, rfl⟩ | rfl | rfl
      exacts [.configure a b, .advance l r, .count, .total]
    obtain ⟨u, hu, hframe⟩ := fadeOp_frame hi s
    obtain rfl : u = t := Host.Outcome.next.inj (hu.symm.trans hexec)
    exact hframe

end Sys2Proof.Proofs
end

section
/-! The outcome of every operation (R300, R303, R305): it is refused for a reason that its term and its operands give, or it
completes. What both leave alone, and what a step keeps of the mark (R41, R304). -/

namespace Sys2Proof.Proofs

open Sys2Proof Sys2Proof.Machine

/-! ### The reason of a refusal -/

/-- The reason of a byte enable that is none of the three (R66); an operation without one has no such reason. -/
def maskReason : Option Word → Option RefuseReason
  | none => none
  | some m => if byteEnableOk m then none else some .badByteEnable

/-- The reason for which an operation is refused, by its mnemonic: R303's table after R82 has sorted the offsets. -/
def reasonOf : Instr → Option RefuseReason
  | .r16RefuseOdd _ => some .oddOffset
  | .w16RefuseOdd _ _ _ => some .oddOffset
  | .r16RefuseWindow _ => some .offsetOutOfWindow
  | .w16RefuseWindow _ _ _ => some .offsetOutOfWindow
  | .r16Refused a => some (.outOfScopeRegister a)
  | .w16Refused a _ m => if byteEnableOk m then some (.outOfScopeRegister a) else some .badByteEnable
  | .fadeConfigure a b => if badFadeOperand a || badFadeOperand b then some .badFadeOperand else none
  | .reserved _ _ => some .reservedOp
  | i => maskReason (byteEnable i)

/-! ### What a completed operation does -/

/-- What moves the interrupt line (R307, R313): the operation, and the level it leaves. -/
inductive MovesLine (s : State) : Instr → Bool → Prop
  | tick (e : List Word) : MovesLine s (.tick e) true
  | midi : MovesLine s (.midiNotify true) true
  | scire (v : Word) {m : Word} (hm : byteEnableOk m = true) (hword : (s.store scire v m).reg scire &&& 0x1C0 ≠ 0) :
      MovesLine s (.w16Scire v m) false
  | irqr (v : Word) {m : Word} (hm : byteEnableOk m = true) (hword : (s.store irqr v m).reg irqr ≠ 0) :
      MovesLine s (.w16Irqr v m) false
  | reset : MovesLine s .reset false

/-- `t` differs from `s` at most in what an operation may write: not in the parameters, wave RAM, the input and the mark. -/
def OperationWrites (s t : State) : Prop :=
  t = { s with
        regs := t.regs
        slots := t.slots
        timCnt := t.timCnt
        irq := t.irq
        irqSrc := t.irqSrc
        midiPending := t.midiPending
        fade := t.fade
        noise := t.noise
        result := t.result
        draws := t.draws }

/-- The state `t` that operation `i` leaves in `s` when it is not refused. -/
structure Completed (i : Instr) (s t : State) : Prop where
  writes : OperationWrites s t
  result : ∀ why, t.result ≠ .refused why
  line : t.irq = s.irq ∨ MovesLine s i t.irq

/-- What operation `i` does, by the reason for which it is refused. -/
def Outcome (i : Instr) (s : State) : Option RefuseReason → Prop
  | some why => exec i s = .next (s.refuse why)
  | none => ∃ t, exec i s = .next t ∧ Completed i s t

/-! ### Operations that move the line -/

/-- An evaluation asserts the line or leaves it (R265). -/
theorem checkIrq_irq (s : State) : s.checkIrq.irq = s.irq ∨ s.checkIrq.irq = true := by
  rcases checkIrq_asserts s with h | ⟨src, -, h⟩
  · exact .inl (congrArg State.irq h)
  · exact .inr (congrArg State.irq h)

theorem tick_irq (s : State) (e : List Word) : (s.tick e).irq = (s.mix e).state.timersTick.checkIrq.irq := by
  rw [State.tick, State.ret_irq]

theorem completed_tick (s : State) (e : List Word) : Completed (.tick e) s (s.tick e) where
  writes := by rw [OperationWrites, tick_frame]
  result _ := nofun
  line := by
    have hbefore : (s.mix e).state.timersTick.irq = s.irq := by
      have hline := timersTick_mix_line s e
      unfold lineOf at hline
      exact (Prod.mk.inj hline).1
    rw [tick_irq]
    rcases checkIrq_irq (s.mix e).state.timersTick with h | h
    · exact .inl (h.trans hbefore)
    · rw [h]
      exact .inr (.tick e)

theorem completed_midiNotify (s : State) (p : Bool) :
    Completed (.midiNotify p) s ((if p then (s.setMidi true).checkIrq else s.setMidi false).ret .none) := by
  cases p with
  | true => exact ⟨rfl, fun _ => nofun, .inr .midi⟩
  | false => exact ⟨rfl, fun _ => nofun, .inl rfl⟩

theorem completed_scire (s : State) (v : Word) {m : Word} (hm : byteEnableOk m = true) :
    Completed (.w16Scire v m) s ((s.store scire v m).acknowledge.ret .none) where
  writes := by rw [acknowledge_eq]; rfl
  result _ := nofun
  line := by
    rw [State.ret_irq, acknowledge_eq]
    dsimp only
    split
    · exact .inr (.scire v hm ‹_›)
    · exact .inl rfl

theorem completed_irqr (s : State) (v : Word) {m : Word} (hm : byteEnableOk m = true) :
    Completed (.w16Irqr v m) s ((s.store irqr v m).requestClear.ret .none) where
  writes := by rw [requestClear_eq]; rfl
  result _ := nofun
  line := by
    rw [State.ret_irq, requestClear_eq]
    dsimp only
    split
    · exact .inr (.irqr v hm ‹_›)
    · exact .inl rfl

/-! ### The table of the operations -/

section

variable {i : Instr} {s : State}

/-- A host write completes with its effect, or is refused for its byte enable (R66). -/
theorem outcome_hostWrite {m : Word} {effect : State → State} (hexec : exec i s = .next (s.hostWrite m effect))
    (h : byteEnableOk m = true → Completed i s ((effect s).ret .none)) : Outcome i s (maskReason (some m)) := by
  cases hm : byteEnableOk m with
  | true =>
    rw [maskReason, if_pos hm]
    exact ⟨_, hexec.trans (congrArg _ (State.hostWrite_ok s effect hm)), h hm⟩
  | false =>
    rw [maskReason, hm]
    exact hexec.trans (congrArg _ (State.hostWrite_bad s effect hm))

/-- A host write whose effect leaves the line alone. -/
theorem outcome_quietWrite {m : Word} {effect : State → State} (hexec : exec i s = .next (s.hostWrite m effect))
    (hwrites : OperationWrites s (effect s)) (hline : (effect s).irq = s.irq) : Outcome i s (maskReason (some m)) :=
  outcome_hostWrite hexec fun _ => ⟨by rw [OperationWrites, hwrites]; rfl, fun _ => nofun, .inl hline⟩

theorem outcome_storeWrite {a : Nat} {v m : Word} (hexec : exec i s = .next (s.storeWrite a v m)) :
    Outcome i s (maskReason (some m)) := outcome_quietWrite hexec rfl rfl

theorem outcome_slotCtrl (k : Fin 64) (v m : Word) : Outcome (.w16SlotCtrl k v m) s (maskReason (some m)) := by
  have hframe := keyExecute_frame (s.store (slotReg k 0x00) v m) k
  exact outcome_quietWrite (effect := fun s => (s.store (slotReg k 0x00) v m).keyExecute k) rfl
    (by rw [OperationWrites, hframe]; rfl) (by rw [hframe]; rfl)

theorem outcome_refusedWrite (a v m : Word) : Outcome (.w16Refused a v m) s (reasonOf (.w16Refused a v m)) := by
  rw [reasonOf]
  cases hm : byteEnableOk m with
  | true => exact congrArg Host.Outcome.next (if_pos hm)
  | false => exact congrArg Host.Outcome.next (if_neg (Bool.eq_false_iff.mp hm))

theorem outcome_fadeConfigure (a b : BitVec 64) : Outcome (.fadeConfigure a b) s (reasonOf (.fadeConfigure a b)) := by
  rw [reasonOf]
  cases hbad : badFadeOperand a || badFadeOperand b with
  | true => exact exec_fadeConfigure_bad ((Bool.or_eq_true _ _).mp hbad) s
  | false =>
    obtain ⟨ha, hb⟩ := Bool.or_eq_false_iff.mp hbad
    exact ⟨_, exec_fadeConfigure_good ha hb s, rfl, fun _ => nofun, .inl rfl⟩

end

/-- Every operation is refused for its reason, or completes. -/
theorem exec_outcome (s : State) : ∀ i : Instr, Outcome i s (reasonOf i)
  | .r16RefuseOdd _ => rfl
  | .r16RefuseWindow _ => rfl
  | .r16Slot _ => ⟨_, rfl, rfl, fun _ => nofun, .inl rfl⟩
  | .r16Efspan _ => ⟨_, rfl, rfl, fun _ => nofun, .inl rfl⟩
  | .r16Unmapped _ => ⟨_, rfl, rfl, fun _ => nofun, .inl rfl⟩
  | .r16Refused _ => rfl
  | .r16Monitor _ => ⟨_, rfl, rfl, fun _ => nofun, .inl rfl⟩
  | .r16Common _ => ⟨_, rfl, rfl, fun _ => nofun, .inl rfl⟩
  | .r16Irqreg _ => ⟨_, rfl, rfl, fun _ => nofun, .inl rfl⟩
  | .w16RefuseOdd _ _ _ => rfl
  | .w16RefuseWindow _ _ _ => rfl
  | .w16SlotCtrl k v m => outcome_slotCtrl k v m
  | .w16SlotEgrel _ _ _ => outcome_quietWrite rfl rfl rfl
  | .w16SlotPitch _ _ _ => outcome_quietWrite rfl rfl rfl
  | .w16SlotLfo _ _ _ => outcome_quietWrite rfl rfl rfl
  | .w16SlotSa _ _ _ => outcome_storeWrite rfl
  | .w16SlotLsa _ _ _ => outcome_storeWrite rfl
  | .w16SlotLea _ _ _ => outcome_storeWrite rfl
  | .w16SlotEgrate _ _ _ => outcome_storeWrite rfl
  | .w16SlotDspsend _ _ _ => outcome_storeWrite rfl
  | .w16SlotDirect _ _ _ => outcome_storeWrite rfl
  | .w16SlotTl _ _ _ => outcome_storeWrite rfl
  | .w16SlotStore _ _ _ => outcome_storeWrite rfl
  | .w16Efspan _ _ _ => outcome_storeWrite rfl
  | .w16Unmapped _ _ _ => outcome_quietWrite rfl rfl rfl
  | .w16Refused a v m => outcome_refusedWrite a v m
  | .w16Monitor _ _ _ => outcome_storeWrite rfl
  | .w16Timer _ _ _ => outcome_quietWrite rfl rfl rfl
  | .w16Scire v _ => outcome_hostWrite rfl (completed_scire s v)
  | .w16Common _ _ _ => outcome_storeWrite rfl
  | .w16Irql _ _ => outcome_storeWrite rfl
  | .w16Irqr v _ => outcome_hostWrite rfl (completed_irqr s v)
  | .tick e => ⟨_, rfl, completed_tick s e⟩
  | .fadeConfigure a b => outcome_fadeConfigure a b
  | .fadeAdvance _ _ => ⟨_, rfl, rfl, fun _ => nofun, .inl rfl⟩
  | .fadeCount => ⟨_, rfl, rfl, fun _ => nofun, .inl rfl⟩
  | .fadeTotal => ⟨_, rfl, rfl, fun _ => nofun, .inl rfl⟩
  | .reset => ⟨_, rfl, rfl, fun _ => nofun, .inr .reset⟩
  | .midiNotify p => ⟨_, rfl, completed_midiNotify s p⟩
  | .reserved _ _ => rfl

/-- Every operation answers a next state: that of a refusal, or that of its completion (R300, R305). -/
theorem exec_total (i : Instr) (s : State) :
    ∃ t, exec i s = .next t ∧ ((∃ why, t = s.refuse why) ∨ Completed i s t) := by
  have houtcome := exec_outcome s i
  generalize reasonOf i = reason at houtcome
  cases reason with
  | some why => exact ⟨_, houtcome, .inl ⟨why, rfl⟩⟩
  | none =>
    obtain ⟨t, hexec, h⟩ := houtcome
    exact ⟨t, hexec, .inr h⟩

/-- Everything an operation can do. -/
theorem exec_cases {i : Instr} {s t : State} (hexec : exec i s = .next t) :
    (∃ why, t = s.refuse why) ∨ Completed i s t := by
  obtain ⟨u, hu, h⟩ := exec_total i s
  obtain rfl : u = t := Host.Outcome.next.inj (hu.symm.trans hexec)
  exact h

/-- Settles O7: a refusal writes the mark and the result, a completion what `OperationWrites` lists. -/
theorem execFrame : Obligations.ExecFrame := by
  intro i s
  obtain ⟨t, hexec, ⟨why, rfl⟩ | h⟩ := exec_total i s
  · exact ⟨_, hexec, rfl, rfl, fun _ => rfl, rfl⟩
  · have hwrites := h.writes
    refine ⟨t, hexec, ?_⟩
    rw [hwrites]
    exact ⟨rfl, rfl, fun _ => rfl, rfl⟩

/-! ### Steps -/

/-- Everything a step can do: nothing, a write of wave RAM, or the operation decoded (R7, R318, R320). -/
theorem step_cases {s t : State} (hstep : step s = .next t) :
    t = s ∨ (∃ a b rest, t = (s.withInput rest).pokeRam a b) ∨ ∃ i rest, exec i (s.withInput rest) = .next t := by
  cases hinput : s.input with
  | nil =>
    simp only [step, hinput] at hstep
    exact .inl (Host.Outcome.next.inj hstep).symm
  | cons event rest =>
    refine .inr ?_
    cases event with
    | ramWrite a b =>
      simp only [step, hinput] at hstep
      exact .inl ⟨a, b, rest, (Host.Outcome.next.inj hstep).symm⟩
    | op tr =>
      cases hdecode : decode tr with
      | error e => simp only [step, hinput, hdecode] at hstep; cases hstep
      | ok i => exact .inr ⟨i, rest, (step_of_decode_ok hinput hdecode).symm.trans hstep⟩

/-- The environment's write of a byte changes wave RAM alone (R320). -/
theorem pokeRam_frame (s : State) (a : Nat) (b : Byte) : s.pokeRam a b = { s with ram := (s.pokeRam a b).ram } := by
  unfold State.pokeRam
  split <;> rfl

/-- Settles O6: the other three branches of `step`. -/
theorem stepOtherEvents : Obligations.StepOtherEvents := by
  refine ⟨fun s hinput => ?idle, fun s a b rest hinput hram => ?ramWrite, fun s t rest e hinput hdecode => ?malformed⟩
  case idle => simp only [step, hinput]
  case ramWrite =>
    refine ⟨(s.withInput rest).pokeRam a b, by simp only [step, hinput], ?_, fun x hx => ?_⟩
    · exact pokeRam_frame (s.withInput rest) a b
    · exact State.pokeRam_read (s.withInput rest) a x b hx hram
  case malformed => simp only [step, hinput, hdecode]

/-- A refusal sets the mark, and a completed operation does not write it (R304). -/
theorem exec_keeps_refused {i : Instr} {s t : State} (hexec : exec i s = .next t) (hs : s.refused = true) :
    t.refused = true := by
  obtain ⟨why, rfl⟩ | h := exec_cases hexec
  · rfl
  · rw [h.writes]
    exact hs

/-- Settles O9: the operations by `exec_keeps_refused`, and the steps that run none write no mark. -/
theorem refusedIsSticky : Obligations.RefusedIsSticky := by
  refine ⟨fun i s t => exec_keeps_refused, fun s t hstep hs => ?_⟩
  obtain rfl | ⟨a, b, rest, rfl⟩ | ⟨i, rest, hexec⟩ := step_cases hstep
  · exact hs
  · rw [pokeRam_frame]
    exact hs
  · exact exec_keeps_refused hexec hs

end Sys2Proof.Proofs
end

section
/-! R303's table, by op code, offset and byte enable: each operation's reason is the first that applies. -/

namespace Sys2Proof.Proofs

open Sys2Proof Sys2Proof.Machine Sys2Proof.Laws

/-! ### The offset -/

theorem getLsbD_zero_iff (a : Word) : a.getLsbD 0 = true ↔ a.toNat % 2 = 1 := by simp [BitVec.getLsbD]

theorem getLsbD_zero_of_even {a : Word} (h : a.toNat % 2 = 0) : ¬a.getLsbD 0 = true := by
  rw [getLsbD_zero_iff, h]
  decide

theorem outOfScope_iff (a : Word) : outOfScope a = true ↔
    (0x2808 ≤ a.toNat ∧ a.toNat ≤ 0x280B) ∨ (0x2880 ≤ a.toNat ∧ a.toNat ≤ 0x288F) ∨
      (0x3000 ≤ a.toNat ∧ a.toNat ≤ 0x7FFF) := by
  simp [outOfScope, or_assoc]

/-- The address classes of R82 whose words are read and written: all but the odd offsets, those beyond the window and the
out-of-scope registers. -/
inductive Served (a : Word) : Prop
  | slot (h : isSlotReg a = true)
  | efspan (h : isEfspanReg a = true)
  | unmapped (h : isUnmappedReg a = true)
  | monitor (h : isMonitorReg a = true)
  | common (h : isCommonReg a = true)
  | irq (h : isIrqReg a = true)

/-- No row of R303's table names a served offset. -/
theorem Served.bounds {a : Word} (h : Served a) :
    a.toNat % 2 = 0 ∧ a.toNat < 0x3000 ∧ ¬(0x2808 ≤ a.toNat ∧ a.toNat ≤ 0x280B) ∧
      ¬(0x2880 ≤ a.toNat ∧ a.toNat ≤ 0x288F) := by
  cases h with
  | slot h => rw [isSlotReg_iff] at h; omega
  | efspan h => rw [isEfspanReg_iff] at h; omega
  | unmapped h => rw [isUnmappedReg_iff] at h; omega
  | monitor h => rw [isMonitorReg_iff] at h; omega
  | common h => rw [isCommonReg_iff] at h; omega
  | irq h => rw [isIrqReg_iff] at h; omega

theorem served_slotOffset (i : Fin 64) {o : Nat} (heven : o % 2 = 0) (ho : o < 0x80) : Served (slotOffset i o) := by
  refine .slot ((isSlotReg_iff _).mpr ?_)
  rw [slotOffset, BitVec.toNat_ofNat]
  omega

theorem served_timer (k : Fin 3) : Served (BitVec.ofNat 16 (0x2890 + 4 * k.val)) := by
  refine .common ?_
  revert k
  decide

/-! ### The rows of the table -/

theorem byteEnableOk_eq (m : Word) : byteEnableOk m = maskAdmitted m := by
  rw [Bool.eq_iff_iff, byteEnableOk_iff, maskAdmitted_iff]

theorem any_maskRefused (m : Option Word) :
    (if m.any (fun m => !maskAdmitted m) then some .badByteEnable else none) = maskReason m := by
  cases m with
  | none => rfl
  | some m =>
    rw [Option.any_some, ← byteEnableOk_eq, maskReason]
    cases byteEnableOk m <;> rfl

section

variable {i : Instr} {op : BitVec 4} {a : Word} (hkey : (encode i).key = mkKey op a)

include hkey

theorem opCode_of_key : opCode i = op.toNat := by rw [opCode, hkey, mkKey_op]

theorem offsetOf_of_key : offsetOf i = a := by rw [offsetOf, hkey, mkKey_low]

/-- The rows of host reads and writes. -/
theorem refusalOf_register (hop : op.toNat ≤ 1) :
    refusalOf i =
      if a.getLsbD 0 then some .oddOffset
      else if 0x8000 ≤ a.toNat then some .offsetOutOfWindow
      else if (byteEnable i).any (fun m => !maskAdmitted m) then some .badByteEnable
      else if outOfScope a then some (.outOfScopeRegister a)
      else none := by
  unfold refusalOf
  rw [opCode_of_key hkey, offsetOf_of_key hkey, if_pos hop]

theorem refusalOf_odd (hop : op.toNat ≤ 1) (ha : (!isEven a) = true) : refusalOf i = some .oddOffset := by
  have hodd : a.getLsbD 0 = true := by
    rw [Bool.not_eq_true', ← Bool.not_eq_true, isEven_iff] at ha
    rw [getLsbD_zero_iff]
    omega
  rw [refusalOf_register hkey hop, if_pos hodd]

theorem refusalOf_window (hop : op.toNat ≤ 1) (ha : isBeyondWindow a = true) : refusalOf i = some .offsetOutOfWindow := by
  rw [isBeyondWindow_iff] at ha
  rw [refusalOf_register hkey hop, if_neg (getLsbD_zero_of_even ha.1), if_pos ha.2]

theorem refusalOf_outOfScope (hop : op.toNat ≤ 1) (ha : isRefusedReg a = true) :
    refusalOf i = if (byteEnable i).any (fun m => !maskAdmitted m) then some .badByteEnable
      else some (.outOfScopeRegister a) := by
  rw [isRefusedReg_iff] at ha
  have hscope : outOfScope a = true := by rw [outOfScope_iff]; omega
  rw [refusalOf_register hkey hop, if_neg (getLsbD_zero_of_even ha.1), if_neg (by omega), if_pos hscope]

theorem refusalOf_served (hop : op.toNat ≤ 1) (ha : Served a) : refusalOf i = maskReason (byteEnable i) := by
  obtain ⟨heven, hwindow, hmidi, hdma⟩ := ha.bounds
  have hscope : ¬outOfScope a = true := by rw [outOfScope_iff]; omega
  rw [refusalOf_register hkey hop, if_neg (getLsbD_zero_of_even heven), if_neg (by omega), if_neg hscope, any_maskRefused]

end

theorem refusalOf_read {i : Instr} {a : Word} (hkey : (encode i).key = mkKey 0 a) (ha : Served a) :
    refusalOf i = maskReason (byteEnable i) := refusalOf_served hkey (by decide) ha

theorem refusalOf_write {i : Instr} {a : Word} (hkey : (encode i).key = mkKey 1 a) (ha : Served a) :
    refusalOf i = maskReason (byteEnable i) := refusalOf_served hkey (by decide) ha

theorem refusalOf_slotWrite {i : Instr} {k : Fin 64} (o : Nat) (hkey : (encode i).key = mkKey 1 (slotOffset k o))
    (heven : o % 2 = 0) (ho : o < 0x80) : refusalOf i = maskReason (byteEnable i) :=
  refusalOf_write hkey (served_slotOffset k heven ho)

theorem refusalOf_refusedWrite {a : Word} (v m : Word) (ha : isRefusedReg a = true) :
    refusalOf (.w16Refused a v m) = reasonOf (.w16Refused a v m) := by
  rw [refusalOf_outOfScope (op := 1) rfl (by decide) ha, byteEnable, Option.any_some, reasonOf, ← byteEnableOk_eq]
  cases byteEnableOk m <;> rfl

/-- The operations without an offset are admitted whatever their operands (R80), but for FADE_CONFIGURE. -/
theorem refusalOf_noOffset {i : Instr} {op : BitVec 4} (hkey : (encode i).key = mkKey op 0) (hlow : 2 ≤ op.toNat)
    (hhigh : op.toNat ≤ 8) (hi : ∀ a b, i ≠ .fadeConfigure a b) : refusalOf i = none := by
  unfold refusalOf
  rw [opCode_of_key hkey, if_neg (by omega), if_neg (by omega)]
  split
  · exact absurd rfl (hi _ _)
  · rfl

theorem refusalOf_fadeConfigure (a b : BitVec 64) : refusalOf (.fadeConfigure a b) = reasonOf (.fadeConfigure a b) := by
  unfold refusalOf
  rw [opCode_of_key (op := 3) (a := 0) rfl, if_neg (by decide), if_neg (by decide), reasonOf, badFadeOperand_eq,
    badFadeOperand_eq]

theorem refusalOf_reserved (op : BitVec 4) (low : Word) (hop : 9 ≤ op.toNat) :
    refusalOf (.reserved op low) = some .reservedOp := by
  unfold refusalOf
  rw [opCode_of_key (op := op) (a := low) rfl, if_neg (by omega), if_pos hop]

/-- The table gives each operation the reason of its mnemonic (R303, R82). -/
theorem refusalOf_eq_reasonOf : ∀ {i : Instr}, i.wf = true → refusalOf i = reasonOf i
  | .r16RefuseOdd _, h => refusalOf_odd (op := 0) rfl (by decide) h
  | .r16RefuseWindow _, h => refusalOf_window (op := 0) rfl (by decide) h
  | .r16Slot _, h => refusalOf_read rfl (.slot h)
  | .r16Efspan _, h => refusalOf_read rfl (.efspan h)
  | .r16Unmapped _, h => refusalOf_read rfl (.unmapped h)
  | .r16Refused _, h => refusalOf_outOfScope (op := 0) rfl (by decide) h
  | .r16Monitor _, h => refusalOf_read rfl (.monitor h)
  | .r16Common _, h => refusalOf_read rfl (.common h)
  | .r16Irqreg _, h => refusalOf_read rfl (.irq h)
  | .w16RefuseOdd _ _ _, h => refusalOf_odd (op := 1) rfl (by decide) h
  | .w16RefuseWindow _ _ _, h => refusalOf_window (op := 1) rfl (by decide) h
  | .w16SlotCtrl _ _ _, _ => refusalOf_slotWrite 0x00 rfl (by decide) (by decide)
  | .w16SlotEgrel _ _ _, _ => refusalOf_slotWrite 0x14 rfl (by decide) (by decide)
  | .w16SlotPitch _ _ _, _ => refusalOf_slotWrite 0x18 rfl (by decide) (by decide)
  | .w16SlotLfo _ _ _, _ => refusalOf_slotWrite 0x1C rfl (by decide) (by decide)
  | .w16SlotSa _ _ _, _ => refusalOf_slotWrite 0x04 rfl (by decide) (by decide)
  | .w16SlotLsa _ _ _, _ => refusalOf_slotWrite 0x08 rfl (by decide) (by decide)
  | .w16SlotLea _ _ _, _ => refusalOf_slotWrite 0x0C rfl (by decide) (by decide)
  | .w16SlotEgrate _ _ _, _ => refusalOf_slotWrite 0x10 rfl (by decide) (by decide)
  | .w16SlotDspsend _ _ _, _ => refusalOf_slotWrite 0x20 rfl (by decide) (by decide)
  | .w16SlotDirect _ _ _, _ => refusalOf_slotWrite 0x24 rfl (by decide) (by decide)
  | .w16SlotTl _ _ _, _ => refusalOf_slotWrite 0x28 rfl (by decide) (by decide)
  | .w16SlotStore _ _ _, h => refusalOf_write rfl (.slot (Bool.and_elim_left h))
  | .w16Efspan _ _ _, h => refusalOf_write rfl (.efspan h)
  | .w16Unmapped _ _ _, h => refusalOf_write rfl (.unmapped h)
  | .w16Refused _ v m, h => refusalOf_refusedWrite v m h
  | .w16Monitor _ _ _, h => refusalOf_write rfl (.monitor h)
  | .w16Timer k _ _, _ => refusalOf_write rfl (served_timer k)
  | .w16Scire _ _, _ => refusalOf_write rfl (.common (by decide))
  | .w16Common a _ _, h => refusalOf_write rfl (.common ((isPlainCommonReg_iff a).mp h).1)
  | .w16Irql _ _, _ => refusalOf_write rfl (.irq (by decide))
  | .w16Irqr _ _, _ => refusalOf_write rfl (.irq (by decide))
  | .tick _, _ => refusalOf_noOffset (op := 2) rfl (by decide) (by decide) nofun
  | .fadeConfigure a b, _ => refusalOf_fadeConfigure a b
  | .fadeAdvance _ _, _ => refusalOf_noOffset (op := 4) rfl (by decide) (by decide) nofun
  | .fadeCount, _ => refusalOf_noOffset (op := 5) rfl (by decide) (by decide) nofun
  | .fadeTotal, _ => refusalOf_noOffset (op := 6) rfl (by decide) (by decide) nofun
  | .reset, _ => refusalOf_noOffset (op := 7) rfl (by decide) (by decide) nofun
  | .midiNotify _, _ => refusalOf_noOffset (op := 8) rfl (by decide) (by decide) nofun
  | .reserved op low, h => refusalOf_reserved op low (of_decide_eq_true h)

/-- Settles O8: the table's reason is the operation's, and `exec_outcome` says what follows from it. -/
theorem refusalTable : Obligations.RefusalTable := by
  intro i s hi
  have houtcome := exec_outcome s i
  rw [← refusalOf_eq_reasonOf hi] at houtcome
  generalize refusalOf i = reason at houtcome ⊢
  cases reason with
  | some why => exact houtcome
  | none =>
    obtain ⟨t, hexec, h⟩ := houtcome
    exact ⟨t, hexec, by rw [h.writes], h.result⟩

end Sys2Proof.Proofs
end

section
/-! What moves the interrupt line (R307, R313). -/

namespace Sys2Proof.Proofs

open Sys2Proof Sys2Proof.Machine

/-- An operation leaves the line, or is one of those that move it. -/
theorem exec_line {i : Instr} {s t : State} (hexec : exec i s = .next t) : t.irq = s.irq ∨ MovesLine s i t.irq := by
  obtain ⟨why, rfl⟩ | h := exec_cases hexec
  · exact .inl rfl
  · exact h.line

/-- An admitted store leaves the merged word (R66, R120). -/
theorem store_mergedWord {s : State} (hwf : RegFile.wf s.regs = true) (a : Nat) (v : Word) {m : Word}
    (hm : maskAdmitted m = true) : (s.store a v m).reg a = mergedWord (s.reg a) v m := by
  rw [State.store_reg_self s a v m hwf, merge_eq_mergedWord _ v hm]

/-- What deasserts the line (R307, R313). -/
theorem deasserts_cases {i : Instr} {s : State} (hwf : RegFile.wf s.regs = true) (h : MovesLine s i false) :
    (∃ v m, i = .w16Scire v m ∧ maskAdmitted m = true ∧ mergedWord (s.reg 0x28A4) v m &&& 0x1C0 ≠ 0) ∨
      (∃ v m, i = .w16Irqr v m ∧ maskAdmitted m = true ∧ mergedWord (s.reg 0x2D04) v m ≠ 0) ∨ i = .reset := by
  cases h with
  | scire v hm hword =>
    rw [byteEnableOk_eq] at hm
    rw [store_mergedWord hwf scire v hm] at hword
    exact .inl ⟨v, _, rfl, hm, hword⟩
  | irqr v hm hword =>
    rw [byteEnableOk_eq] at hm
    rw [store_mergedWord hwf irqr v hm] at hword
    exact .inr (.inl ⟨v, _, rfl, hm, hword⟩)
  | reset => exact .inr (.inr rfl)

/-- What asserts the line (R307, R313). -/
theorem asserts_cases {i : Instr} {s : State} (h : MovesLine s i true) : (∃ e, i = .tick e) ∨ i = .midiNotify true := by
  cases h with
  | tick e => exact .inl ⟨e, rfl⟩
  | midi => exact .inr rfl

/-- Settles O28: a line that changes was moved, to the level it has. -/
theorem lineChanges : Obligations.LineChanges := by
  intro i s t hwf hexec
  have hline := exec_line hexec
  refine ⟨fun hs ht => ?_, fun hs ht => ?_⟩
  · rw [hs, ht] at hline
    exact deasserts_cases hwf (hline.resolve_left nofun)
  · rw [hs, ht] at hline
    exact asserts_cases (hline.resolve_left nofun)

end Sys2Proof.Proofs
end

section
/-! RESET (R330, R331), and that nothing sounds after it (R332). -/

namespace Sys2Proof.Proofs

open Sys2Proof Sys2Proof.Machine

/-! ### What RESET leaves -/

theorem resetOp_slot (s : State) (j : Fin 64) : s.resetOp.slots[j] = Slot.idle := Vector.getElem_replicate j.isLt

theorem resetOp_timCnt (s : State) (k : Fin 3) : s.resetOp.timCnt[k] = 0xFFFF := Vector.getElem_replicate k.isLt

/-- Settles O56: the words by the empty register file, the slots and the timers by their replicates. -/
theorem reset : Obligations.Reset := fun s =>
  ⟨s.resetOp, rfl, rfl, fun _ => rfl, resetOp_reg s, resetOp_timCnt s, resetOp_slot s⟩

/-! ### The initial state -/

/-- RESET of the initial state differs from it in what no invariant speaks of: the NOISE table and the draw counter. -/
theorem reset_quiet : quietFrame State.reset.resetOp State.reset := rfl

theorem reset_storageInv : State.reset.storageInv :=
  ⟨State.reset_regs_wf, fun _ he => absurd he List.not_mem_nil, State.reset_ram_wf, fun _ he => absurd he List.not_mem_nil⟩

/-- Settles O57: the invariants are those of a state that RESET left, carried over to the initial state. -/
theorem initialState : Obligations.InitialState := by
  have ⟨hkyonex, hslots⟩ := slots_quiet reset_quiet (resetOp_keeps State.reset)
  have hline : State.reset.resetOp.irqInv := fun hasserted => absurd hasserted Bool.false_ne_true
  have ⟨htimer, hfade, hirq⟩ := timersFadeLine_quiet reset_quiet ⟨resetOp_timerInv State.reset, idle_good, hline⟩
  refine ⟨fun t hexec => ?_, rfl, rfl, reset_storageInv, hkyonex, hslots, htimer, hfade, hirq⟩
  obtain rfl : State.reset.resetOp = t := Host.Outcome.next.inj hexec
  rfl

/-! ### A TICK with nothing to do -/

/-- An effect return with EFSDL = 0 adds nothing (R247). -/
theorem returnTurn_silent {e : List Word} {m : Mix} {n : Nat} (h : m.state.efsdl n = 0) : m.returnTurn e n = m := by
  simp [Mix.returnTurn, State.returnL, State.returnR, h]

/-- With no active slot and every EFSDL 0 the mix is empty (R163, R247). -/
theorem mix_silent {s : State} (e : List Word) (hslots : ∀ j : Fin 64, s.slots[j].active = false)
    (hreturns : ∀ n, s.efsdl n = 0) : s.mix e = mixStart s := by
  have hturns : (mixStart s).slotTurns (List.finRange 64) = mixStart s := slotTurns_inactive fun j _ => hslots j
  rw [State.mix, ← mixStart, hturns]
  exact List.foldl_fixed' (fun n => returnTurn_silent (hreturns n)) _

/-- Stopped timers stay stopped (R261). -/
theorem timersTick_stopped {s : State} (h : ∀ k : Fin 3, s.timCnt[k] = 0xFFFF) : s.timersTick = s := by
  have hturn (k : Fin 3) : s.timerTick k = s := by
    refine if_neg ?_
    rw [h k]
    decide
  rw [State.timersTick, hturn, hturn, hturn]

/-- Without a source the evaluation changes nothing (R265). -/
theorem checkIrq_silent {s : State} (hmidi : s.midiPending = false) (hpend : pendingEnabled s = 0#16) : s.checkIrq = s := by
  have htimer (k : Fin 3) : s.timerAsserts k = false := by rw [timerAsserts_eq, hpend, BitVec.getLsbD_zero]
  simp [State.checkIrq, hmidi, htimer]

/-- A TICK with no slot active, no effect return heard, the timers stopped and no interrupt source is silent and changes
nothing (R332). -/
theorem tick_silent {s : State} (e : List Word) (hslots : ∀ j : Fin 64, s.slots[j].active = false)
    (hreturns : ∀ n, s.efsdl n = 0) (htimers : ∀ k : Fin 3, s.timCnt[k] = 0xFFFF) (hmidi : s.midiPending = false)
    (hpend : pendingEnabled s = 0#16) : s.tick e = s.ret (.tick 0 0 []) := by
  rw [State.tick, mix_silent e hslots hreturns]
  dsimp only [mixStart]
  rw [timersTick_stopped htimers, checkIrq_silent hmidi hpend]
  rfl

/-! ### After RESET -/

/-- Every field of every register word is 0, whatever wave RAM holds. -/
theorem resetOp_efsdl (r : State) (m : Memory) (n : Nat) : State.efsdl { r.resetOp with ram := m } n = 0 := bits_zero 11 8

/-- No source is pending and enabled, whatever wave RAM holds. -/
theorem resetOp_pendingEnabled (r : State) (m : Memory) : pendingEnabled { r.resetOp with ram := m } = 0#16 :=
  BitVec.and_self

/-- Settles O49: the idle slots, the TICK with nothing to do, and the fade that was never enabled. -/
theorem silentAfterReset : Obligations.SilentAfterReset := by
  intro r s e m x y hexec
  obtain rfl : r.resetOp = s := Host.Outcome.next.inj hexec
  have hidle (j : Fin 64) : r.resetOp.slots[j].active = false := by rw [resetOp_slot]; rfl
  refine ⟨fun j => ?_, ?_, ?_⟩
  · rw [resetOp_slot]
    exact ⟨rfl, rfl⟩
  · exact congrArg Host.Outcome.next
      (tick_silent (s := { r.resetOp with ram := m }) e hidle (resetOp_efsdl r m) (resetOp_timCnt r) rfl
        (resetOp_pendingEnabled r m))
  · rw [exec_fadeAdvance, advanced, apply_disabled rfl, apply_disabled rfl]
    rfl

end Sys2Proof.Proofs
end
